-- ==== Sys2Proof/Word.lean ====
section
/-! DEFINITION. The word types of the COP420. Every value of the machine is an unsigned bit vector of
its stated width, bit 0 the least significant (rules R11, R12). -/

namespace Sys2Proof

/-- One bit of a register or latch that instructions read as data (C, SKL, IL3, IL0, a pin). -/
abbrev Bit := BitVec 1

/-- One digit of data memory, and the width of A, Bd, EN, G, D and SIO (R20, R66). -/
abbrev Nibble := BitVec 4

/-- One word of program memory, and the width of Q and the L port (R26, R61). -/
abbrev Byte := BitVec 8

/-- A program memory address, the width of P, SA, SB and SC (R23, R25). -/
abbrev RomAddr := BitVec 10

/-- A data memory address `r:d`, the width of B (R21, R66). -/
abbrev RamAddr := BitVec 6

end Sys2Proof
end

