-- ==== Sys2Proof/Config.lean ====
section
/-! DEFINITION. What a part fixes for its life (R9) and the free values: the constants without a body
that stand where the spec gives no value (R45, R49), each applied to the counter `State.free`. -/

namespace Sys2Proof

/-- The parts the spec gives a programmer's model for (R2). The COP444L family is open (R277) and the
COP440, COP441, COP401L are named only (R7): they have no constructor. -/
inductive Variant where
  | cop420 | cop421 | cop420L | cop421L | cop420C | cop421C | cop402 | cop402M | cop410L | cop411L
  deriving DecidableEq, Repr

/-- The function mask-programmed into the CKO pin (R9); `noPin` where the part has no CKO pin, as the
COP411L (R275). -/
inductive CkoOption where
  | crystalOutput | generalInput | ramSupply | syncInput | noPin
  deriving DecidableEq, Repr

/-- The parameters of R9 that change what a program observes. -/
structure Part where
  variant : Variant
  cko : CkoOption
  microbus : Bool
  deriving DecidableEq, Repr

/-- `has_IN` (R9, R260, R267): whether the IN pins, and with them ININ, the IL latches and the
interrupt, exist. -/
def Variant.hasIN : Variant → Bool
  | .cop420 | .cop420L | .cop420C | .cop402 | .cop402M => true
  | .cop421 | .cop421L | .cop421C | .cop410L | .cop411L => false

/-- The parts with 512 ROM words, 32 RAM cells and two stack levels (R267 to R270). -/
def Variant.isCop410 : Variant → Bool
  | .cop410L | .cop411L => true
  | .cop420 | .cop421 | .cop420L | .cop421L | .cop420C | .cop421C | .cop402 | .cop402M => false

/-- The parts that offer the MICROBUS option (R9, R315). -/
def Variant.offersMicrobus : Variant → Bool
  | .cop420 | .cop420C | .cop402M => true
  | .cop421 | .cop420L | .cop421L | .cop421C | .cop402 | .cop410L | .cop411L => false

/-- Whether a part may have this CKO function: fixed on the ROM-less parts (R266), no general-purpose input
on the COP410L (R279), none on the COP411L, which alone lacks the pin (R275). -/
def Variant.offersCko : Variant → CkoOption → Bool
  | .cop402, k | .cop402M, k => k == .crystalOutput
  | .cop411L, k => k == .noPin
  | .cop410L, k => k != .generalInput && k != .noPin
  | .cop420, k | .cop421, k | .cop420L, k | .cop421L, k | .cop420C, k | .cop421C, k => k != .noPin

/-- A combination of parameters that R9 and 47_variants.md allow. The COP402M is the COP402 with the
MICROBUS option selected (R266). -/
def Part.wf (p : Part) : Bool :=
  p.variant.offersCko p.cko && (!p.microbus || p.variant.offersMicrobus)
    && (p.variant != .cop402M || p.microbus)

/-- The COP420 with no option selected: the spec's primary part (R1). -/
def Part.cop420 : Part := { variant := .cop420, cko := .crystalOutput, microbus := false }

/-! Free values. None has a body: a claim holds for every value of them. -/
namespace Config

/-- The level of the IN pins at a step the script does not cover (R45). -/
opaque pinIN : Nat → Nibble
/-- The level of the G pins (R45, U10, U15). -/
opaque pinG : Nat → Nibble
/-- The level of the L pins (R45, U15). -/
opaque pinL : Nat → Byte
/-- The level of the CKO pin (R314). -/
opaque pinCKO : Nat → Bit
/-- The SI sample of the first cycle of a step (R308). -/
opaque pinSI0 : Nat → Bit
/-- The SI sample of the second cycle of a step (R308). -/
opaque pinSI1 : Nat → Bit
/-- Whether an interrupt that is due is acknowledged at this boundary (R294, D7). -/
opaque acknowledge : Nat → Bool

/-- Q after a RESET (R48, R49). -/
opaque resetQ : Nat → Byte
/-- SIO after a RESET (R48, R49). -/
opaque resetSIO : Nat → Nibble
/-- SA after a RESET (R48, R49). -/
opaque resetSA : Nat → RomAddr
/-- SB after a RESET (R48, R49). -/
opaque resetSB : Nat → RomAddr
/-- SC after a RESET (R48, R49). -/
opaque resetSC : Nat → RomAddr
/-- TC after a RESET of three to nine cycles and after power-up (R48, D28). -/
opaque resetTC : Nat → BitVec 10
/-- T after a RESET of three to nine cycles and after power-up (R48, D28). -/
opaque resetT : Nat → Bool
/-- IL3 after power-up (R48). -/
opaque powerUpIL3 : Nat → Bit
/-- IL0 after power-up (R48). -/
opaque powerUpIL0 : Nat → Bit
/-- The digit in RAM cell `cell` after power-up (R48, R337). -/
opaque powerUpRam : Nat → (cell : Nat) → Nibble

/-- What a COP410L data memory read with Bd = 8 gives (R270, D29, U9). -/
opaque digit8Value : Nat → Nibble
/-- Which of the 32 cells a COP410L data memory write with Bd = 8 reaches (R270, D29, U9). -/
opaque digit8Cell : Nat → BitVec 5

end Config

end Sys2Proof
end

