-- ==== Sys2Proof/Syntax.lean ====
section
/-! DEFINITION. The instructions of the COP420 series: one constructor per row of
spec/opcode_table.json (R113). The bit number `n` of RMB, SMB, SKMBZ and SKGBZ is no operand field but
selects one of four opcodes (R101), so each has a constructor of its own; JP and LBI have one
constructor per format (R92). Operands are the unsigned numbers their fields spell (R93). -/

namespace Sys2Proof

inductive Instr where
  -- arithmetic (41_arithmetic.md)
  | asc
  | add
  | adt
  | aisc (y : Nibble)
  | casc
  | clra
  | comp
  | nop
  | rc
  | sc
  | xor
  -- input/output (42_input_output.md)
  | ing
  | inin
  | inil
  | inl
  | obd
  | ogi (y : Nibble)
  | omg
  | xas
  -- transfer of control (43_transfer_of_control.md)
  | jid
  | jmp (a : RomAddr)
  | jp7 (a : BitVec 7)
  | jp6 (a : BitVec 6)
  | jsrp (a : BitVec 6)
  | jsr (a : RomAddr)
  | ret
  | retsk
  -- memory reference (44_memory_reference.md)
  | camq
  | cqma
  | ld (r : BitVec 2)
  | ldd (r : BitVec 2) (d : Nibble)
  | lqid
  | rmb0
  | rmb1
  | rmb2
  | rmb3
  | smb0
  | smb1
  | smb2
  | smb3
  | stii (y : Nibble)
  | x (r : BitVec 2)
  | xad (r : BitVec 2) (d : Nibble)
  | xds (r : BitVec 2)
  | xis (r : BitVec 2)
  -- register reference (45_register_reference.md)
  | cab
  | cba
  | lbi1 (r : BitVec 2) (d : Nibble)
  | lbi2 (r : BitVec 2) (d : Nibble)
  | lei (y : Nibble)
  | xabr
  -- test (46_test.md)
  | skc
  | ske
  | skgbz0
  | skgbz1
  | skgbz2
  | skgbz3
  | skgz
  | skmbz0
  | skmbz1
  | skmbz2
  | skmbz3
  | skt
  deriving DecidableEq, Repr

end Sys2Proof
end

