-- ==== Sys2Proof/WellFormed.lean ====
section
/-! DEFINITION. Well-formed instructions: the operand values the encoding admits. -/

namespace Sys2Proof

/-- The operand restrictions of R103 (AISC takes 1 to 15), R105 (no JP or JSRP field of all ones, no
7-bit JP to the last word of page 2) and R96 (the one-byte LBI takes d = 0 and 9 to 15). Every other
operand takes all values of its width (R93), the two-byte LBI's d included (R97). -/
def Instr.wf : Instr → Bool
  | .aisc y => y != 0
  | .jp7 a => a != 0x3F && a != 0x7F
  | .jp6 a => a != 0x3F
  | .jsrp a => a != 0x3F
  | .lbi1 _ d => d == 0 || 9 ≤ d.toNat
  | .asc | .add | .adt | .casc | .clra | .comp | .nop | .rc | .sc | .xor
  | .ing | .inin | .inil | .inl | .obd | .ogi _ | .omg | .xas
  | .jid | .jmp _ | .jsr _ | .ret | .retsk
  | .camq | .cqma | .ld _ | .ldd _ _ | .lqid | .rmb0 | .rmb1 | .rmb2 | .rmb3
  | .smb0 | .smb1 | .smb2 | .smb3 | .stii _ | .x _ | .xad _ _ | .xds _ | .xis _
  | .cab | .cba | .lbi2 _ _ | .lei _ | .xabr
  | .skc | .ske | .skgbz0 | .skgbz1 | .skgbz2 | .skgbz3 | .skgz
  | .skmbz0 | .skmbz1 | .skmbz2 | .skmbz3 | .skt => true

end Sys2Proof
end

