-- ==== Sys2Proof/Decode.lean ====
section
/-! DEFINITION. The decoder, total on any bytes and rejecting by name (R90 to R109), the encoder written
from the same tables, and the syntactic facts the sequencer asks of an instruction. The bit patterns are
the spec's from general knowledge (93_implementation_defined.md G1; notes/assumptions/8.md). -/

namespace Sys2Proof

/-- The page of an address, P9:P6 (R62). -/
def pageOf (p : RomAddr) : Nibble := p.extractLsb' 6 4

/-- Pages 2 and 3, the subroutine pages (R64, R94). -/
def subroutinePage (page : Nibble) : Bool := page == 2 || page == 3

/-- Whether a first byte begins a two-byte instruction (R91). -/
def startsTwoByte (b : Byte) : Bool :=
  b == 0x23 || b == 0x33 || b.extractLsb' 2 6 == 0x18 || b.extractLsb' 2 6 == 0x1A

/-- The first bytes of R98 with an opcode of their own, the bit-number rows of R101 among them. -/
def decodeFixed (b : Byte) : Option Instr :=
  match b.toNat with
  | 0x00 => some .clra
  | 0x01 => some .skmbz0
  | 0x02 => some .xor
  | 0x03 => some .skmbz2
  | 0x10 => some .casc
  | 0x11 => some .skmbz1
  | 0x12 => some .xabr
  | 0x13 => some .skmbz3
  | 0x20 => some .skc
  | 0x21 => some .ske
  | 0x22 => some .sc
  | 0x30 => some .asc
  | 0x31 => some .add
  | 0x32 => some .rc
  | 0x40 => some .comp
  | 0x41 => some .skt
  | 0x42 => some .rmb2
  | 0x43 => some .rmb3
  | 0x44 => some .nop
  | 0x45 => some .rmb1
  | 0x46 => some .smb2
  | 0x47 => some .smb1
  | 0x48 => some .ret
  | 0x49 => some .retsk
  | 0x4A => some .adt
  | 0x4B => some .smb3
  | 0x4C => some .rmb0
  | 0x4D => some .smb0
  | 0x4E => some .cba
  | 0x4F => some .xas
  | 0x50 => some .cab
  | 0xBF => some .lqid
  | 0xFF => some .jid
  | _ => none

/-- The first bytes 0x00 to 0x3F with an r field: `00rr oooo` (formats R and LBI1 of R92). The one-byte
LBI codes d minus 1 in its low four bits (R96). -/
def decodeRField (b : Byte) : Option Instr :=
  let r := b.extractLsb' 4 2
  let lo := b.extractLsb' 0 4
  if b[3] then some (.lbi1 r (lo + 1))
  else if lo == 4 then some (.xis r)
  else if lo == 5 then some (.ld r)
  else if lo == 6 then some (.x r)
  else if lo == 7 then some (.xds r)
  else none

/-- The first bytes 0x80 to 0xFE that are jumps, read by the page of the incremented P (R94). -/
def decodeJump (page : Nibble) (b : Byte) : Instr :=
  if subroutinePage page then .jp7 (b.extractLsb' 0 7)
  else if b[6] then .jp6 (b.extractLsb' 0 6)
  else .jsrp (b.extractLsb' 0 6)

/-- A one-byte instruction (R98); `page` is that of the incremented P. Bytes 0xBF and 0xFF are LQID and
JID in every page (R107), byte 0x50 is CAB (R103). -/
def decodeOne (page : Nibble) (b : Byte) : Option Instr :=
  match decodeFixed b with
  | some i => some i
  | none =>
    if b[7] then some (decodeJump page b)
    else if b.extractLsb' 6 2 == 0 then decodeRField b
    else if b.extractLsb' 4 4 == 5 then some (.aisc (b.extractLsb' 0 4))
    else if b.extractLsb' 4 4 == 7 then some (.stii (b.extractLsb' 0 4))
    else none

/-- The second byte after 0x23 (R99). -/
def decode23 (b : Byte) : Option Instr :=
  if b.extractLsb' 6 2 == 0 then some (.ldd (b.extractLsb' 4 2) (b.extractLsb' 0 4))
  else if b.extractLsb' 6 2 == 2 then some (.xad (b.extractLsb' 4 2) (b.extractLsb' 0 4))
  else none

/-- The second byte after 0x33 (R100). -/
def decode33 (b : Byte) : Option Instr :=
  match b.toNat with
  | 0x01 => some .skgbz0
  | 0x11 => some .skgbz1
  | 0x03 => some .skgbz2
  | 0x13 => some .skgbz3
  | 0x21 => some .skgz
  | 0x28 => some .inin
  | 0x29 => some .inil
  | 0x2A => some .ing
  | 0x2C => some .cqma
  | 0x2E => some .inl
  | 0x3A => some .omg
  | 0x3C => some .camq
  | 0x3E => some .obd
  | _ =>
    if b.extractLsb' 4 4 == 5 then some (.ogi (b.extractLsb' 0 4))
    else if b.extractLsb' 4 4 == 6 then some (.lei (b.extractLsb' 0 4))
    else if b.extractLsb' 6 2 == 2 then some (.lbi2 (b.extractLsb' 4 2) (b.extractLsb' 0 4))
    else none

/-- A two-byte instruction: the prefixes 0x23 and 0x33, and JMP and JSR with
`a = byte1[1:0] : byte2` (R95). -/
def decodeTwo (b1 b2 : Byte) : Option Instr :=
  if b1 == 0x23 then decode23 b2
  else if b1 == 0x33 then decode33 b2
  else if b1.extractLsb' 2 6 == 0x18 then some (.jmp (b1.extractLsb' 0 2 ++ b2))
  else if b1.extractLsb' 2 6 == 0x1A then some (.jsr (b1.extractLsb' 0 2 ++ b2))
  else none

/-- The COP410L and COP411L subset (R271 to R274). Their JMP and JSR carry a 9-bit address, bit a9 being 0
(R268; notes/assumptions/21.md); of XAD only `XAD 3,15` exists. -/
def Instr.onCop410 : Instr → Bool
  | .adt | .casc | .inin | .inil | .ogi _ | .cqma | .ldd _ _ | .lbi2 _ _ | .xabr | .skt => false
  | .xad r d => r == 3 && d == 15
  | .jmp a => !a[9]
  | .jsr a => !a[9]
  | .asc | .add | .aisc _ | .clra | .comp | .nop | .rc | .sc | .xor
  | .ing | .inl | .obd | .omg | .xas
  | .jid | .jp7 _ | .jp6 _ | .jsrp _ | .ret | .retsk
  | .camq | .ld _ | .lqid | .rmb0 | .rmb1 | .rmb2 | .rmb3
  | .smb0 | .smb1 | .smb2 | .smb3 | .stii _ | .x _ | .xds _ | .xis _
  | .cab | .cba | .lbi1 _ _ | .lei _
  | .skc | .ske | .skgbz0 | .skgbz1 | .skgbz2 | .skgbz3 | .skgz
  | .skmbz0 | .skmbz1 | .skmbz2 | .skmbz3 => true

/-- Whether a part has an instruction: all 63 rows on the COP420; no ININ without IN pins (R261); the
subset of R274 on the COP410L and COP411L. -/
def Part.has (p : Part) (i : Instr) : Bool :=
  if p.variant.isCop410 then i.onCop410 else p.variant.hasIN || i != .inin

/-- Why bytes are no instruction. -/
inductive DecodeError where
  /-- There is no byte to decode. -/
  | noBytes
  /-- The first byte begins a two-byte instruction and no second byte follows. -/
  | cutShort (b1 : Byte)
  /-- A first byte that R98 gives no instruction. -/
  | illegalByte (b1 : Byte)
  /-- A second byte that R99 or R100 gives no instruction. -/
  | illegalSecondByte (b1 b2 : Byte)
  /-- An instruction that this part does not have (R109, R261, R274). -/
  | deletedOnPart (i : Instr)
  deriving DecidableEq, Repr

/-- What a decoded instruction is on a part: itself, or a rejection where the part lacks it. -/
def Part.accept (part : Part) (i : Instr) (rest : List Byte) : Except DecodeError (Instr × List Byte) :=
  if part.has i then .ok (i, rest) else .error (.deletedOnPart i)

/-- Decode the instruction at the head of `bytes` and give the bytes after it (R90 to R109); `page` is
the page of P after the first byte's fetch has advanced it (R94). -/
def decode (part : Part) (page : Nibble) (bytes : List Byte) : Except DecodeError (Instr × List Byte) :=
  match bytes with
  | [] => .error .noBytes
  | b1 :: rest =>
    if startsTwoByte b1 then
      match rest with
      | [] => .error (.cutShort b1)
      | b2 :: rest' =>
        match decodeTwo b1 b2 with
        | some i => part.accept i rest'
        | none => .error (.illegalSecondByte b1 b2)
    else
      match decodeOne page b1 with
      | some i => part.accept i rest
      | none => .error (.illegalByte b1)

/-! The encoder. -/

/-- Format R of R92, `00rr oooo`. -/
def encodeR (r : BitVec 2) (o : Nibble) : Byte := (0#2 ++ r) ++ o

/-- Second bytes with a direct address, `t t r r d d d d` (formats P23 and LBI2 of R92). -/
def encodeRD (t r : BitVec 2) (d : Nibble) : Byte := (t ++ r) ++ d

/-- The bytes of an instruction, first byte first (R92, R98 to R101). -/
def encode : Instr → List Byte
  | .asc => [0x30]
  | .add => [0x31]
  | .adt => [0x4A]
  | .aisc y => [5#4 ++ y]
  | .casc => [0x10]
  | .clra => [0x00]
  | .comp => [0x40]
  | .nop => [0x44]
  | .rc => [0x32]
  | .sc => [0x22]
  | .xor => [0x02]
  | .ing => [0x33, 0x2A]
  | .inin => [0x33, 0x28]
  | .inil => [0x33, 0x29]
  | .inl => [0x33, 0x2E]
  | .obd => [0x33, 0x3E]
  | .ogi y => [0x33, 5#4 ++ y]
  | .omg => [0x33, 0x3A]
  | .xas => [0x4F]
  | .jid => [0xFF]
  | .jmp a => [0x18#6 ++ a.extractLsb' 8 2, a.extractLsb' 0 8]
  | .jp7 a => [1#1 ++ a]
  | .jp6 a => [3#2 ++ a]
  | .jsrp a => [2#2 ++ a]
  | .jsr a => [0x1A#6 ++ a.extractLsb' 8 2, a.extractLsb' 0 8]
  | .ret => [0x48]
  | .retsk => [0x49]
  | .camq => [0x33, 0x3C]
  | .cqma => [0x33, 0x2C]
  | .ld r => [encodeR r 5]
  | .ldd r d => [0x23, encodeRD 0 r d]
  | .lqid => [0xBF]
  | .rmb0 => [0x4C]
  | .rmb1 => [0x45]
  | .rmb2 => [0x42]
  | .rmb3 => [0x43]
  | .smb0 => [0x4D]
  | .smb1 => [0x47]
  | .smb2 => [0x46]
  | .smb3 => [0x4B]
  | .stii y => [7#4 ++ y]
  | .x r => [encodeR r 6]
  | .xad r d => [0x23, encodeRD 2 r d]
  | .xds r => [encodeR r 7]
  | .xis r => [encodeR r 4]
  | .cab => [0x50]
  | .cba => [0x4E]
  | .lbi1 r d => [encodeR r (d - 1)]
  | .lbi2 r d => [0x33, encodeRD 2 r d]
  | .lei y => [0x33, 6#4 ++ y]
  | .xabr => [0x12]
  | .skc => [0x20]
  | .ske => [0x21]
  | .skgbz0 => [0x33, 0x01]
  | .skgbz1 => [0x33, 0x11]
  | .skgbz2 => [0x33, 0x03]
  | .skgbz3 => [0x33, 0x13]
  | .skgz => [0x33, 0x21]
  | .skmbz0 => [0x01]
  | .skmbz1 => [0x11]
  | .skmbz2 => [0x03]
  | .skmbz3 => [0x13]
  | .skt => [0x41]

/-- Whether an instruction can stand where the incremented P is in `page`: JP7 needs a subroutine page,
JP6 and JSRP need another page (R94). -/
def Instr.fitsPage (page : Nibble) : Instr → Bool
  | .jp7 _ => subroutinePage page
  | .jp6 _ | .jsrp _ => !subroutinePage page
  | .asc | .add | .adt | .aisc _ | .casc | .clra | .comp | .nop | .rc | .sc | .xor
  | .ing | .inin | .inil | .inl | .obd | .ogi _ | .omg | .xas
  | .jid | .jmp _ | .jsr _ | .ret | .retsk
  | .camq | .cqma | .ld _ | .ldd _ _ | .lqid | .rmb0 | .rmb1 | .rmb2 | .rmb3
  | .smb0 | .smb1 | .smb2 | .smb3 | .stii _ | .x _ | .xad _ _ | .xds _ | .xis _
  | .cab | .cba | .lbi1 _ _ | .lbi2 _ _ | .lei _ | .xabr
  | .skc | .ske | .skgbz0 | .skgbz1 | .skgbz2 | .skgbz3 | .skgz
  | .skmbz0 | .skmbz1 | .skmbz2 | .skmbz3 | .skt => true

/-! What the sequencer asks of an instruction. -/

/-- The two-byte instructions of R92: formats LONG, P23, P33, P33Y and LBI2. -/
def Instr.twoByte : Instr → Bool
  | .ing | .inin | .inil | .inl | .obd | .ogi _ | .omg | .jmp _ | .jsr _ | .camq | .cqma
  | .ldd _ _ | .xad _ _ | .lbi2 _ _ | .lei _ | .skgbz0 | .skgbz1 | .skgbz2 | .skgbz3 | .skgz => true
  | .asc | .add | .adt | .aisc _ | .casc | .clra | .comp | .nop | .rc | .sc | .xor | .xas
  | .jid | .jp7 _ | .jp6 _ | .jsrp _ | .ret | .retsk
  | .ld _ | .lqid | .rmb0 | .rmb1 | .rmb2 | .rmb3 | .smb0 | .smb1 | .smb2 | .smb3
  | .stii _ | .x _ | .xds _ | .xis _ | .cab | .cba | .lbi1 _ _ | .xabr
  | .skc | .ske | .skmbz0 | .skmbz1 | .skmbz2 | .skmbz3 | .skt => false

/-- The instructions that read a ROM word as data: JID and LQID (R181, R205). -/
def Instr.readsRom (i : Instr) : Bool := i == .jid || i == .lqid

/-- Instruction cycles of a step (R345): one per byte, JID and LQID two when executed, a skipped
instruction its number of bytes. -/
def Instr.cycles (i : Instr) (executed : Bool) : Nat :=
  if i.twoByte || (executed && i.readsRom) then 2 else 1

/-- The transfer of control instructions of R294: JID, JMP, JP, JSRP, JSR, RET, RETSK. -/
def Instr.isTransfer : Instr → Bool
  | .jid | .jmp _ | .jp7 _ | .jp6 _ | .jsrp _ | .jsr _ | .ret | .retsk => true
  | .asc | .add | .adt | .aisc _ | .casc | .clra | .comp | .nop | .rc | .sc | .xor
  | .ing | .inin | .inil | .inl | .obd | .ogi _ | .omg | .xas
  | .camq | .cqma | .ld _ | .ldd _ _ | .lqid | .rmb0 | .rmb1 | .rmb2 | .rmb3
  | .smb0 | .smb1 | .smb2 | .smb3 | .stii _ | .x _ | .xad _ _ | .xds _ | .xis _
  | .cab | .cba | .lbi1 _ _ | .lbi2 _ _ | .lei _ | .xabr
  | .skc | .ske | .skgbz0 | .skgbz1 | .skgbz2 | .skgbz3 | .skgz
  | .skmbz0 | .skmbz1 | .skmbz2 | .skmbz3 | .skt => false

/-- An LBI of either form (R127). -/
def Instr.isLbi : Instr → Bool
  | .lbi1 _ _ | .lbi2 _ _ => true
  | .asc | .add | .adt | .aisc _ | .casc | .clra | .comp | .nop | .rc | .sc | .xor
  | .ing | .inin | .inil | .inl | .obd | .ogi _ | .omg | .xas
  | .jid | .jmp _ | .jp7 _ | .jp6 _ | .jsrp _ | .jsr _ | .ret | .retsk
  | .camq | .cqma | .ld _ | .ldd _ _ | .lqid | .rmb0 | .rmb1 | .rmb2 | .rmb3
  | .smb0 | .smb1 | .smb2 | .smb3 | .stii _ | .x _ | .xad _ _ | .xds _ | .xis _
  | .cab | .cba | .lei _ | .xabr
  | .skc | .ske | .skgbz0 | .skgbz1 | .skgbz2 | .skgbz3 | .skgz
  | .skmbz0 | .skmbz1 | .skmbz2 | .skmbz3 | .skt => false

/-! The host's numbering of a row's bits. -/

/-- The two bytes a table word stands for, the first to be fetched first. An 8-bit word is its one byte,
the byte after it zero. A 16-bit word is `byte1 * 256 + byte2` (R113); read the other way round only where
its high byte begins no two-byte instruction and its low byte does (notes/assumptions/25.md). -/
def tableBytes (nbits w : Nat) : Byte × Byte :=
  let lo := BitVec.ofNat 8 w
  let hi := BitVec.ofNat 8 (w / 256)
  if nbits ≤ 8 then (lo, 0)
  else if !startsTwoByte hi && startsTwoByte lo then (lo, hi)
  else (hi, lo)

/-- The instruction the COP420's decoder reads from a table word fetched at address 0, where the
incremented P is in page 0. -/
def decodeTableWord (nbits w : Nat) : Option Instr :=
  let b := tableBytes nbits w
  match decode Part.cop420 (pageOf 1) [b.1, b.2] with
  | .ok (i, _) => some i
  | .error _ => none

end Sys2Proof
end

