-- ==== Sys2Proof/Machine/State.lean ====
section
/-! DEFINITION. The state of the machine as plain data (10_state.md), the outside world's script, the
reasons a step can stop, the plain field updates, and the state after reset. Every field is listed with
its rule and reset value in INVENTORY.md. -/

namespace Sys2Proof.Machine

/-- A memory of `w`-bit cells: (address, value) pairs in one canonical form, addresses strictly rising
and no entry equal to what an unlisted address reads as. With `w = 8` it is a list of `Host.Cell`. -/
abbrev Memory (w : Nat) := List (Nat × BitVec w)

/-- What happens outside the chip; each is a whole event (R344). The pulses, edges and host writes land
between two steps; RESET and power-up override the step they arrive in (R330; notes/assumptions/32.md). -/
inductive Event where
  /-- A low-going pulse on IN1; `remembered` is the environment's choice whether such a pulse is latched
  while EN1 = 0 (R293, D10). -/
  | pulseIN1 (remembered : Bool)
  /-- A low-going pulse on IN3 (R313). -/
  | pulseIN3
  /-- A low-going pulse on IN0 (R313). -/
  | pulseIN0
  /-- A falling edge of SI (R309). -/
  | fallSI
  /-- The MICROBUS host writes a byte (R316). -/
  | hostWrite (v : Byte)
  /-- A RESET pulse, of three to nine cycles or (`tenCycles`) of ten or more (R330, R333). -/
  | reset (tenCycles : Bool)
  /-- A loss and return of Vcc with its initialization; `vrHeld` says that Vr stayed powered and RESET was
  forced low in time (R78, R337). -/
  | powerUp (vrHeld : Bool)
  deriving DecidableEq, Repr

/-- The outside world over one step: the pin levels it samples (R45), the SI sample of each of its one or
two cycles (R308), whether an interrupt due at its end is acknowledged there (R294, D7), and the events, in
their order: those between it and the next step, and a RESET or power-up during it. -/
structure Inputs where
  pinIN : Nibble
  pinG : Nibble
  pinL : Byte
  pinCKO : Bit
  si0 : Bit
  si1 : Bit
  acknowledge : Bool
  events : List Event
  deriving DecidableEq, Repr

/-- The whole state. `rom` and `part` are the spec's parameters (R9), held here and never written by a
step; `script` and `free` are the model's own (INVENTORY.md). -/
structure State where
  A : Nibble
  B : RamAddr
  C : Bit
  P : RomAddr
  SA : RomAddr
  SB : RomAddr
  SC : RomAddr
  Q : Byte
  EN : Nibble
  G : Nibble
  D : Nibble
  SIO : Nibble
  SKL : Bit
  IL3 : Bit
  IL0 : Bit
  TC : BitVec 10
  T : Bool
  skip : Bool
  lbiChain : Bool
  skipSaved : Bool
  irq : Bool
  ram : Memory 4
  rom : Memory 8
  part : Part
  script : List Inputs
  free : Nat
  deriving DecidableEq, Repr

/-- Why the model stops: the three `fault(reason)` of R290. Each is safe: the hardware has no trap, and
the model says nothing of what follows. -/
inductive Fault where
  /-- Raised by the fetch on bytes that spell no instruction of the part, also when they would be skipped
  (R108, R261, R274). Safe. -/
  | illegalEncoding
  /-- Raised by RETSK while a skip status saved by an interrupt is pending (R187, D9). Safe. -/
  | retskWithSavedSkip
  /-- Raised by INIL on a part without IN pins whose CKO is not a general-purpose input (R262, D30).
  Safe. -/
  | inilNonFunctional
  deriving DecidableEq, Repr

/-- Why an instruction has no meaning. -/
inductive Refusal where
  /-- Raised by an arm of exec that has no meaning yet; no arm of this model raises it. Safe. -/
  | notModelled (mnemonic : String)
  deriving DecidableEq, Repr

/-- What a meaning or a step answers. -/
abbrev Result := Host.Outcome State Fault Refusal

/-! Plain field updates. -/

def State.setA (s : State) (v : Nibble) : State := { s with A := v }
def State.setB (s : State) (v : RamAddr) : State := { s with B := v }
def State.setC (s : State) (v : Bit) : State := { s with C := v }
def State.setP (s : State) (v : RomAddr) : State := { s with P := v }
def State.setSA (s : State) (v : RomAddr) : State := { s with SA := v }
def State.setSB (s : State) (v : RomAddr) : State := { s with SB := v }
def State.setSC (s : State) (v : RomAddr) : State := { s with SC := v }
def State.setQ (s : State) (v : Byte) : State := { s with Q := v }
def State.setEN (s : State) (v : Nibble) : State := { s with EN := v }
def State.setG (s : State) (v : Nibble) : State := { s with G := v }
def State.setD (s : State) (v : Nibble) : State := { s with D := v }
def State.setSIO (s : State) (v : Nibble) : State := { s with SIO := v }
def State.setSKL (s : State) (v : Bit) : State := { s with SKL := v }
def State.setIL3 (s : State) (v : Bit) : State := { s with IL3 := v }
def State.setIL0 (s : State) (v : Bit) : State := { s with IL0 := v }
def State.setTC (s : State) (v : BitVec 10) : State := { s with TC := v }
def State.setT (s : State) (v : Bool) : State := { s with T := v }
def State.setSkip (s : State) (v : Bool) : State := { s with skip := v }
def State.setLbiChain (s : State) (v : Bool) : State := { s with lbiChain := v }
def State.setSkipSaved (s : State) (v : Bool) : State := { s with skipSaved := v }
def State.setIrq (s : State) (v : Bool) : State := { s with irq := v }
def State.setRam (s : State) (v : Memory 4) : State := { s with ram := v }
def State.setRom (s : State) (v : Memory 8) : State := { s with rom := v }
def State.setScript (s : State) (v : List Inputs) : State := { s with script := v }
def State.setFree (s : State) (v : Nat) : State := { s with free := v }

/-- The state after a RESET of ten instruction cycles or more of a COP420 (R48, R331, R333), with nothing
placed in either memory. Q, SIO, SA, SB, SC, IL3 and IL0 have no value in the spec; 0 here is DESIGN
CHOICE, notes/assumptions/3.md. -/
def State.reset : State where
  A := 0
  B := 0
  C := 0
  P := 0
  SA := 0
  SB := 0
  SC := 0
  Q := 0
  EN := 0
  G := 0
  D := 0
  SIO := 0
  SKL := 1
  IL3 := 0
  IL0 := 0
  TC := 0
  T := true
  skip := false
  lbiChain := false
  skipSaved := false
  irq := false
  ram := []
  rom := []
  part := Part.cop420
  script := []
  free := 0

end Sys2Proof.Machine
end

