-- ==== Sys2Proof/Machine/Ops.lean ====
section
/-! DEFINITION. The named operations: memory (20_memory.md), the fields of B, the program counter and the
stack (10_state.md), entering the interrupt and returning from it (60_exceptions.md). -/

namespace Sys2Proof

/-! What the part's sizes fix. -/

/-- A program address kept to the part's width: 10 bits, 9 on the COP410L and COP411L (R268). -/
def Part.romAddr (part : Part) (p : RomAddr) : RomAddr :=
  if part.variant.isCop410 then p &&& 0x1FF else p

/-- The ROM addresses a part has (R61, R268). -/
def Part.romHas (part : Part) (a : Nat) : Bool := decide (a < if part.variant.isCop410 then 512 else 1024)

/-- The RAM cells a part has: 64, or the digits 0 and 9 to 15 of each register (R66, R270). -/
def Part.cellExists (part : Part) (a : Nat) : Bool :=
  decide (a < 64) && (!part.variant.isCop410 || decide (a % 16 = 0 ∨ 9 ≤ a % 16))

end Sys2Proof

namespace Sys2Proof.Machine

/-! Memory. -/

/-- What an address that is not listed reads as: 0 (DESIGN CHOICE, notes/assumptions/4.md for RAM, 5.md
for ROM). -/
def Memory.unlisted {w : Nat} : BitVec w := 0

/-- The value at an address. -/
def Memory.read {w : Nat} (m : Memory w) (a : Nat) : BitVec w :=
  match m with
  | [] => Memory.unlisted
  | (k, v) :: rest => if k = a then v else Memory.read rest a

/-- A memory with `v` put before the entries of `rest`, all at higher addresses, in canonical form. -/
def Memory.cons {w : Nat} (a : Nat) (v : BitVec w) (rest : Memory w) : Memory w :=
  if v = Memory.unlisted then rest else (a, v) :: rest

/-- The memory with the value at one address replaced, in canonical form. -/
def Memory.write {w : Nat} (m : Memory w) (a : Nat) (v : BitVec w) : Memory w :=
  match m with
  | [] => Memory.cons a v []
  | (k, x) :: rest =>
    if a < k then Memory.cons a v ((k, x) :: rest)
    else if a = k then Memory.cons a v rest
    else (k, x) :: Memory.write rest a v

/-- The canonical form from address `lo` up: strictly rising, nothing listed that reads as unlisted. -/
def Memory.wfFrom {w : Nat} (lo : Nat) : Memory w → Bool
  | [] => true
  | (k, v) :: rest => decide (lo ≤ k) && v != Memory.unlisted && Memory.wfFrom (k + 1) rest

/-- The canonical form of a memory. -/
def Memory.wf {w : Nat} (m : Memory w) : Bool := Memory.wfFrom 0 m

/-- Whether every listed address satisfies `exists_`. -/
def Memory.within {w : Nat} (m : Memory w) (exists_ : Nat → Bool) : Bool := m.all fun c => exists_ c.1

/-! What the outside world offers this step. -/

/-- The pin levels, SI samples, acknowledgement and events of this step: the head of the script, and where
the script is used up the free values of Config with no event (R45; notes/assumptions/9.md, 10.md). -/
def State.inputs (s : State) : Inputs :=
  match s.script with
  | i :: _ => i
  | [] =>
    { pinIN := Config.pinIN s.free, pinG := Config.pinG s.free, pinL := Config.pinL s.free,
      pinCKO := Config.pinCKO s.free, si0 := Config.pinSI0 s.free, si1 := Config.pinSI1 s.free,
      acknowledge := Config.acknowledge s.free, events := [] }

/-- The step's entry of the script is used up, and the next step has its own free values. -/
def State.nextInputs (s : State) : State :=
  (s.setScript s.script.tail).setFree (s.free + 1)

/-! The fields of B and of EN. -/

/-- Br, the upper two bits of B (R21). -/
def State.br (s : State) : BitVec 2 := s.B.extractLsb' 4 2

/-- Bd, the lower four bits of B (R21). -/
def State.bd (s : State) : Nibble := s.B.extractLsb' 0 4

/-- Write Br and leave Bd (R21). -/
def State.setBr (s : State) (r : BitVec 2) : State := s.setB (r ++ s.bd)

/-- Write Bd and leave Br (R21). -/
def State.setBd (s : State) (d : Nibble) : State := s.setB (s.br ++ d)

/-- `Br <- Br ^ r`, the r field of the memory reference instructions (R200). -/
def State.xorBr (s : State) (r : BitVec 2) : State := s.setBr (s.br ^^^ r)

/-- EN0: SIO counts instead of shifting (R28). -/
def State.en0 (s : State) : Bool := s.EN[0]

/-- EN1: the interrupt is enabled (R29). -/
def State.en1 (s : State) : Bool := s.EN[1]

/-- EN2: the L drivers are enabled (R30). -/
def State.en2 (s : State) : Bool := s.EN[2]

/-- EN3: SO is enabled, or its value (R31). -/
def State.en3 (s : State) : Bool := s.EN[3]

/-! Program memory and the program counter. -/

/-- The address after P: it wraps at the top of the part's ROM (R121, R131, R268). -/
def State.nextP (s : State) : RomAddr := s.part.romAddr (s.P + 1)

/-- `RomRead(addr)` (R61). -/
def State.romRead (s : State) (a : RomAddr) : Byte := s.rom.read a.toNat

/-! Data memory. -/

/-- The cell of a COP410L address with Bd not 8: digits 1 to 7 are the cells 9 to 15 (R270). -/
def cop410Cell (addr : RamAddr) : Nat :=
  let d := addr.extractLsb' 0 4
  if d = 0 then addr.toNat else (addr ||| 8).toNat

/-- The cell a free 5-bit number stands for: register, and digit 0 or 9 to 15 (R270, D29). -/
def cop410FreeCell (n : BitVec 5) : Nat :=
  let k := (n.extractLsb' 0 3).toNat
  16 * (n.extractLsb' 3 2).toNat + (if k = 0 then 0 else k + 8)

/-- Whether an address is the one the spec gives no cell: Bd = 8 on the COP410L and COP411L (R270). -/
def State.noCell (s : State) (addr : RamAddr) : Bool :=
  s.part.variant.isCop410 && addr.extractLsb' 0 4 == 8

/-- The cell a write to `addr` reaches: the address itself, but for the aliases and the unspecified target
of the COP410L and COP411L (R66, R270, D29). -/
def State.storeCell (s : State) (addr : RamAddr) : Nat :=
  if s.part.variant.isCop410 then
    if s.noCell addr then cop410FreeCell (Config.digit8Cell s.free) else cop410Cell addr
  else addr.toNat

/-- `MemRead(addr, 1)` (R66); an address without a cell gives a free value (R270, D29). -/
def State.readDigit (s : State) (addr : RamAddr) : Nibble :=
  if s.noCell addr then Config.digit8Value s.free else s.ram.read (s.storeCell addr)

/-- `MemWrite(addr, 1, v)` (R66). -/
def State.writeDigit (s : State) (addr : RamAddr) (v : Nibble) : State :=
  s.setRam (s.ram.write (s.storeCell addr) v)

/-! The subroutine stack. -/

/-- `push(v)` (R33); two levels on the COP410L and COP411L (R269). -/
def State.push (s : State) (v : RomAddr) : State :=
  if s.part.variant.isCop410 then (s.setSB s.SA).setSA v
  else ((s.setSC s.SB).setSB s.SA).setSA v

/-- `P <- pop()` (R34): SC keeps its value; on the COP410L and COP411L SB does (R269). -/
def State.popP (s : State) : State :=
  if s.part.variant.isCop410 then (s.setP s.SA).setSA s.SB
  else ((s.setP s.SA).setSA s.SB).setSB s.SC

/-! The interrupt. -/

/-- The interrupt entry address, the last word of page 3 (R64, R295). -/
def interruptEntry : RomAddr := 0x0FF

/-- `enter_interrupt()` (R295, R296): the address of the next instruction is pushed, the skip status saved
and cleared, the LBI chain ended, control goes to 0x0FF, EN1 and the request are reset. -/
def State.enterInterrupt (s : State) : State :=
  ((((((s.push s.P).setSkipSaved s.skip).setSkip false).setLbiChain false).setP interruptEntry).setEN
    (s.EN &&& 0xD)).setIrq false

/-- The return of RET (R186, R298): the stack is popped into P and the saved skip status implemented. -/
def State.returnWithSavedSkip (s : State) : State :=
  (s.popP.setSkip s.skipSaved).setSkipSaved false

/-! Placing an instruction's bytes in program memory, for the host's `withFetchWord`. -/

/-- The two bytes `b` at P and at the address after it (notes/assumptions/25.md). -/
def State.placeAtP (s : State) (b : Byte × Byte) : State :=
  s.setRom ((s.rom.write s.P.toNat b.1).write s.nextP.toNat b.2)

end Sys2Proof.Machine
end

