-- ==== Sys2Proof/Machine/Agents.lean ====
section
/-! DEFINITION. The agents beside the instruction stream: the time-base counter and the serial register,
once per instruction cycle, and the events of the outside world (60_exceptions.md,
70_reset_and_hazards.md). -/

namespace Sys2Proof.Machine

/-- `tick_time_base()` (R305); the COP410L and COP411L have no counter (R273). -/
def State.tickTimeBase (s : State) : State :=
  if s.part.variant.isCop410 then s
  else if s.TC = 1023 then (s.setTC 0).setT true
  else s.setTC (s.TC + 1)

/-- `shift_SIO()` (R308): left, the SI sample into bit 0. -/
def State.shiftSIO (s : State) (si : Bit) : State := s.setSIO (s.SIO.extractLsb' 0 3 ++ si)

/-- One instruction cycle: the counter ticks and, in shift mode, SIO shifts (R132). -/
def State.cycle (s : State) (si : Bit) : State :=
  if s.tickTimeBase.en0 then s.tickTimeBase else s.tickTimeBase.shiftSIO si

/-- The SI sample of cycle `k` of a step. -/
def Inputs.si (i : Inputs) (k : Nat) : Bit := if k = 0 then i.si0 else i.si1

/-- `n` instruction cycles, the first of them cycle `k` of the step (R132). -/
def State.runCycles (s : State) (i : Inputs) (k : Nat) : Nat → State
  | 0 => s
  | n + 1 => State.runCycles (s.cycle (i.si k)) i (k + 1) n

/-- Initialization (R331, R48): the cleared registers; what the spec leaves unspecified takes free values
(R49; notes/assumptions/23.md). RAM, IL3 and IL0 are kept. -/
def State.initialise (s : State) (tenCycles : Bool) : State :=
  let small := s.part.variant.isCop410
  { s with
    P := 0, A := 0, B := 0, C := 0, D := 0, EN := 0, G := 0, SKL := 1
    skip := false, lbiChain := false, skipSaved := false, irq := false
    Q := Config.resetQ s.free
    SIO := Config.resetSIO s.free
    SA := s.part.romAddr (Config.resetSA s.free)
    SB := s.part.romAddr (Config.resetSB s.free)
    SC := if small then s.SC else Config.resetSC s.free
    TC := if small then s.TC else if tenCycles then 0 else Config.resetTC s.free
    T := if small then s.T else if tenCycles then true else Config.resetT s.free
    free := s.free + 1 }

/-- The cells below `n` that a part has, each holding a free value (R337). -/
def powerUpCells (part : Part) (free : Nat) : Nat → Memory 4
  | 0 => []
  | n + 1 =>
    if part.cellExists n then (powerUpCells part free n).write n (Config.powerUpRam free n)
    else powerUpCells part free n

/-- Power-up: initialization with every RAM digit and the IL latches unspecified too (R48, R337). With CKO
as the RAM supply and Vr held, RAM keeps its contents (R78, R321). -/
def State.powerUp (s : State) (vrHeld : Bool) : State :=
  let kept := s.part.cko == .ramSupply && vrHeld
  { s.initialise false with
    ram := if kept then s.ram else powerUpCells s.part s.free 64
    IL3 := if s.part.variant.hasIN then Config.powerUpIL3 s.free else s.IL3
    IL0 := if s.part.variant.hasIN then Config.powerUpIL0 s.free else s.IL0 }

/-- One event of the outside world. The IN pins and what hangs on them exist only where the part has them
(R260, R322), the MICROBUS host only with that option (R315). -/
def State.applyEvent (s : State) : Event → State
  | .pulseIN1 remembered => if s.part.variant.hasIN && (s.en1 || remembered) then s.setIrq true else s
  | .pulseIN3 => if s.part.variant.hasIN then s.setIL3 1 else s
  | .pulseIN0 => if s.part.variant.hasIN then s.setIL0 1 else s
  | .fallSI => if s.en0 then s.setSIO (s.SIO - 1) else s
  | .hostWrite v => if s.part.microbus then (s.setQ v).setG (s.G &&& 0xE) else s
  | .reset tenCycles => s.initialise tenCycles
  | .powerUp vrHeld => s.powerUp vrHeld

/-- The events of one script entry, each once, in order. -/
def State.applyEvents (s : State) (es : List Event) : State := es.foldl State.applyEvent s

/-- The causes of initialization, which override whatever the chip is doing (R330). -/
def Event.initialises : Event → Bool
  | .reset _ => true
  | .powerUp _ => true
  | .pulseIN1 _ => false
  | .pulseIN3 => false
  | .pulseIN0 => false
  | .fallSI => false
  | .hostWrite _ => false

/-- A RESET or power-up arrives during this step (R330). -/
def State.overridden (s : State) : Bool := s.inputs.events.any Event.initialises

/-- A step that RESET or power-up overrides (R330, R300): the instruction in progress is abandoned, a
pending interrupt is not entered, and only the events of the step's script entry happen. How far the
instruction had come is notes/assumptions/32.md. -/
def State.overriddenStep (s : State) : State := s.nextInputs.applyEvents s.inputs.events

end Sys2Proof.Machine
end

