-- ==== Sys2Proof/Machine/Flags.lean ====
section
/-! DEFINITION. Every flag computation: the carry out of the 4-bit adder (R140) and the skip condition
(R124, R125). C and `skip` are the only flags (R22). -/

namespace Sys2Proof.Machine

/-- The 5-bit sum of two digits and a carry in: bit 4 is the carry out (R140). -/
def addDigits (x y : Nibble) (c : Bit) : BitVec 5 := x.setWidth 5 + y.setWidth 5 + c.setWidth 5

/-- The digit of a sum. -/
def sumDigit (sum : BitVec 5) : Nibble := sum.extractLsb' 0 4

/-- The carry out of a sum, as the bit C takes. -/
def sumCarry (sum : BitVec 5) : Bit := sum.extractLsb' 4 1

/-- The carry out of a sum, as a condition. -/
def carriesOut (sum : BitVec 5) : Bool := sum[4]

/-- `if cond: skip <- 1` (R125). -/
def State.skipIf (s : State) (cond : Bool) : State := s.setSkip (s.skip || cond)

/-- A and C take a sum, and its carry skips (R141, R145). -/
def State.takeSum (s : State) (sum : BitVec 5) : State :=
  ((s.setA (sumDigit sum)).setC (sumCarry sum)).skipIf (carriesOut sum)

end Sys2Proof.Machine
end

