-- ==== Sys2Proof/Machine/Operands.lean ====
section
/-! DEFINITION. Every operand form: the digit M addressed by B, the direct digit r:d, the ROM pointer of
JID and LQID, bit numbers, and the input pins. -/

namespace Sys2Proof.Machine

/-- M, the digit addressed by B (R66). -/
def State.M (s : State) : Nibble := s.readDigit s.B

/-- `M <- v`, through the B of the moment (R12). -/
def State.setM (s : State) (v : Nibble) : State := s.writeDigit s.B v

/-- The direct address r:d of LDD and XAD (R67). -/
def directAddr (r : BitVec 2) (d : Nibble) : RamAddr := r ++ d

/-- `t <- A; A <- digit; digit <- t` at an address (R209, R210). -/
def State.exchangeAt (s : State) (addr : RamAddr) : State :=
  (s.writeDigit addr s.A).setA (s.readDigit addr)

/-- The exchange of A with M (R209, R211, R212). -/
def State.exchangeM (s : State) : State := s.exchangeAt s.B

/-- `P9:P8 : A : M`, the ROM address JID and LQID look up (R181, R205). -/
def State.romPointer (s : State) : RomAddr := (s.P.extractLsb' 8 2 ++ s.A) ++ s.M

/-- The digit with bit n set (R207). -/
def setBit (n : Fin 4) (v : Nibble) : Nibble := v ||| (1#4 <<< n.val)

/-- The digit with bit n reset (R206). -/
def resetBit (n : Fin 4) (v : Nibble) : Nibble := v &&& ~~~(1#4 <<< n.val)

/-! The input pins (R45): the levels of the wires, not of the output latches (R168). -/

/-- The levels of IN3 to IN0. -/
def State.pinIN (s : State) : Nibble := s.inputs.pinIN

/-- The levels of the four G pins. -/
def State.pinG (s : State) : Nibble := s.inputs.pinG

/-- The levels of the eight L pins. -/
def State.pinL (s : State) : Byte := s.inputs.pinL

/-- The level of CKO. -/
def State.pinCKO (s : State) : Bit := s.inputs.pinCKO

/-- What INIL puts in A2: the CKO pin where it is a general-purpose input, otherwise 1 (R162). -/
def State.ckoBit (s : State) : Bit := if s.part.cko = .generalInput then s.pinCKO else 1

end Sys2Proof.Machine
end

