-- ==== Sys2Proof/Machine/Arithmetic.lean ====
section
/-! DEFINITION. The arithmetic instructions (41_arithmetic.md). -/

namespace Sys2Proof.Machine

/-- ASC, add with carry, skip on carry (R141). -/
def execAsc (s : State) : Result := .next (s.takeSum (addDigits s.A s.M s.C))

/-- ADD (R142): neither C nor skip is affected. -/
def execAdd (s : State) : Result := .next (s.setA (sumDigit (addDigits s.A s.M 0)))

/-- ADT, add ten (R143). -/
def execAdt (s : State) : Result := .next (s.setA (sumDigit (addDigits s.A 10 0)))

/-- AISC y, add immediate, skip on carry (R144): C is not changed. -/
def execAisc (y : Nibble) (s : State) : Result :=
  .next ((s.setA (sumDigit (addDigits s.A y 0))).skipIf (carriesOut (addDigits s.A y 0)))

/-- CASC, complement and add, skip on carry (R145). -/
def execCasc (s : State) : Result := .next (s.takeSum (addDigits (~~~s.A) s.M s.C))

/-- CLRA (R146). -/
def execClra (s : State) : Result := .next (s.setA 0)

/-- COMP (R147). -/
def execComp (s : State) : Result := .next (s.setA (~~~s.A))

/-- NOP (R148). -/
def execNop (s : State) : Result := .next s

/-- RC, reset carry (R149). -/
def execRc (s : State) : Result := .next (s.setC 0)

/-- SC, set carry (R150). -/
def execSc (s : State) : Result := .next (s.setC 1)

/-- XOR (R151). -/
def execXor (s : State) : Result := .next (s.setA (s.A ^^^ s.M))

end Sys2Proof.Machine
end

