-- ==== Sys2Proof/Machine/InputOutput.lean ====
section
/-! DEFINITION. The input/output instructions (42_input_output.md). -/

namespace Sys2Proof.Machine

/-- ING, the G pins to A (R160). -/
def execIng (s : State) : Result := .next (s.setA s.pinG)

/-- ININ, the IN pins to A (R161); the IL latches and the request are not cleared. -/
def execInin (s : State) : Result := .next (s.setA s.pinIN)

/-- INIL: IL3, CKO, 0, IL0 to A and both latches reset (R162). Without IN pins it inputs CKO alone, and is
non functional where CKO is no general-purpose input (R262). -/
def execInil (s : State) : Result :=
  if s.part.variant.hasIN then
    .next (((s.setA (((s.IL3 ++ s.ckoBit) ++ 0#1) ++ s.IL0)).setIL3 0).setIL0 0)
  else if s.part.cko = .generalInput then
    .next (s.setA (((0#1 ++ s.pinCKO) ++ 0#1) ++ 0#1))
  else .fault .inilNonFunctional

/-- INL, the L pins to M and A (R163). -/
def execInl (s : State) : Result :=
  .next ((s.setM (s.pinL.extractLsb' 4 4)).setA (s.pinL.extractLsb' 0 4))

/-- OBD, Bd to the D latch (R164). -/
def execObd (s : State) : Result := .next (s.setD s.bd)

/-- OGI y, y to the G latch (R165). -/
def execOgi (y : Nibble) (s : State) : Result := .next (s.setG y)

/-- OMG, M to the G latch (R166). -/
def execOmg (s : State) : Result := .next (s.setG s.M)

/-- XAS, exchange A with SIO and copy C into SKL (R167). -/
def execXas (s : State) : Result := .next (((s.setA s.SIO).setSIO s.A).setSKL s.C)

end Sys2Proof.Machine
end

