-- ==== Sys2Proof/Machine/MemoryReference.lean ====
section
/-! DEFINITION. The memory reference instructions (44_memory_reference.md). Memory is accessed with the old
B, then B changes (R200). -/

namespace Sys2Proof.Machine

/-- CAMQ, A and M to Q (R201). -/
def execCamq (s : State) : Result := .next (s.setQ (s.A ++ s.M))

/-- CQMA, Q to M and A (R202). -/
def execCqma (s : State) : Result :=
  .next ((s.setM (s.Q.extractLsb' 4 4)).setA (s.Q.extractLsb' 0 4))

/-- LD r (R203). -/
def execLd (r : BitVec 2) (s : State) : Result := .next ((s.setA s.M).xorBr r)

/-- LDD r,d (R204). -/
def execLdd (r : BitVec 2) (d : Nibble) (s : State) : Result :=
  .next (s.setA (s.readDigit (directAddr r d)))

/-- LQID: push, look up P9:P8 : A : M, Q takes the word, pop (R205). -/
def execLqid (s : State) : Result :=
  .next ((((s.push s.P).setP s.romPointer).setQ (s.romRead s.romPointer)).popP)

/-- RMB 0 (R206). -/
def execRmb0 (s : State) : Result := .next (s.setM (resetBit 0 s.M))

/-- RMB 1 (R206). -/
def execRmb1 (s : State) : Result := .next (s.setM (resetBit 1 s.M))

/-- RMB 2 (R206). -/
def execRmb2 (s : State) : Result := .next (s.setM (resetBit 2 s.M))

/-- RMB 3 (R206). -/
def execRmb3 (s : State) : Result := .next (s.setM (resetBit 3 s.M))

/-- SMB 0 (R207). -/
def execSmb0 (s : State) : Result := .next (s.setM (setBit 0 s.M))

/-- SMB 1 (R207). -/
def execSmb1 (s : State) : Result := .next (s.setM (setBit 1 s.M))

/-- SMB 2 (R207). -/
def execSmb2 (s : State) : Result := .next (s.setM (setBit 2 s.M))

/-- SMB 3 (R207). -/
def execSmb3 (s : State) : Result := .next (s.setM (setBit 3 s.M))

/-- STII y: store, then step Bd, never skipping (R208). -/
def execStii (y : Nibble) (s : State) : Result := .next ((s.setM y).setBd (s.bd + 1))

/-- X r (R209). -/
def execX (r : BitVec 2) (s : State) : Result := .next (s.exchangeM.xorBr r)

/-- XAD r,d (R210). -/
def execXad (r : BitVec 2) (d : Nibble) (s : State) : Result := .next (s.exchangeAt (directAddr r d))

/-- XDS r: exchange, decrement Bd, skip when Bd was 0 (R211). -/
def execXds (r : BitVec 2) (s : State) : Result :=
  .next (((s.exchangeM.skipIf (s.bd == 0)).setBd (s.bd - 1)).xorBr r)

/-- XIS r: exchange, increment Bd, skip when Bd was 15 (R212). -/
def execXis (r : BitVec 2) (s : State) : Result :=
  .next (((s.exchangeM.skipIf (s.bd == 15)).setBd (s.bd + 1)).xorBr r)

end Sys2Proof.Machine
end

