-- ==== Sys2Proof/Machine/RegisterReference.lean ====
section
/-! DEFINITION. The register reference instructions (45_register_reference.md). The LBI chain is kept by
the step (R127, R134), not here. -/

namespace Sys2Proof.Machine

/-- CAB, A to Bd (R230). -/
def execCab (s : State) : Result := .next (s.setBd s.A)

/-- CBA, Bd to A (R231). -/
def execCba (s : State) : Result := .next (s.setA s.bd)

/-- LBI r,d in its one-byte form (R232). -/
def execLbi1 (r : BitVec 2) (d : Nibble) (s : State) : Result := .next (s.setB (r ++ d))

/-- LBI r,d in its two-byte form (R232). -/
def execLbi2 (r : BitVec 2) (d : Nibble) (s : State) : Result := .next (s.setB (r ++ d))

/-- LEI y (R233). -/
def execLei (y : Nibble) (s : State) : Result := .next (s.setEN y)

/-- XABR: Br takes A1:A0, A takes 00 and the old Br (R234). -/
def execXabr (s : State) : Result :=
  .next ((s.setBr (s.A.extractLsb' 0 2)).setA (0#2 ++ s.br))

end Sys2Proof.Machine
end

