-- ==== Sys2Proof/Machine/Test.lean ====
section
/-! DEFINITION. The test instructions (46_test.md). -/

namespace Sys2Proof.Machine

/-- SKC, skip if C = 1 (R245). -/
def execSkc (s : State) : Result := .next (s.skipIf (s.C == 1))

/-- SKE, skip if A = M (R246). -/
def execSke (s : State) : Result := .next (s.skipIf (s.A == s.M))

/-- SKGBZ 0, skip if pin G0 is 0 (R247). -/
def execSkgbz0 (s : State) : Result := .next (s.skipIf (!s.pinG[0]))

/-- SKGBZ 1, skip if pin G1 is 0 (R247). -/
def execSkgbz1 (s : State) : Result := .next (s.skipIf (!s.pinG[1]))

/-- SKGBZ 2, skip if pin G2 is 0 (R247). -/
def execSkgbz2 (s : State) : Result := .next (s.skipIf (!s.pinG[2]))

/-- SKGBZ 3, skip if pin G3 is 0 (R247). -/
def execSkgbz3 (s : State) : Result := .next (s.skipIf (!s.pinG[3]))

/-- SKGZ, skip if all four G pins are 0 (R248). -/
def execSkgz (s : State) : Result := .next (s.skipIf (s.pinG == 0))

/-- SKMBZ 0, skip if bit 0 of M is 0 (R249). -/
def execSkmbz0 (s : State) : Result := .next (s.skipIf (!s.M[0]))

/-- SKMBZ 1, skip if bit 1 of M is 0 (R249). -/
def execSkmbz1 (s : State) : Result := .next (s.skipIf (!s.M[1]))

/-- SKMBZ 2, skip if bit 2 of M is 0 (R249). -/
def execSkmbz2 (s : State) : Result := .next (s.skipIf (!s.M[2]))

/-- SKMBZ 3, skip if bit 3 of M is 0 (R249). -/
def execSkmbz3 (s : State) : Result := .next (s.skipIf (!s.M[3]))

/-- SKT, skip if T is set, and reset T (R250). -/
def execSkt (s : State) : Result := .next ((s.skipIf s.T).setT false)

end Sys2Proof.Machine
end

