-- ==== Sys2Proof/Machine/Transfer.lean ====
section
/-! DEFINITION. The transfer of control instructions (43_transfer_of_control.md). P is the address of the
next sequential instruction when a meaning runs (R122). -/

namespace Sys2Proof.Machine

/-- JID: P7:P0 take the ROM word at P9:P8 : A : M (R181). -/
def execJid (s : State) : Result :=
  .next (s.setP (s.P.extractLsb' 8 2 ++ s.romRead s.romPointer))

/-- JMP a (R182). -/
def execJmp (a : RomAddr) (s : State) : Result := .next (s.setP a)

/-- JP a in the subroutine pages: P6:P0 take the 7-bit field (R183). -/
def execJp7 (a : BitVec 7) (s : State) : Result := .next (s.setP (s.P.extractLsb' 7 3 ++ a))

/-- JP a in the other pages: P5:P0 take the 6-bit field (R183). -/
def execJp6 (a : BitVec 6) (s : State) : Result := .next (s.setP (pageOf s.P ++ a))

/-- JSRP a: call into page 2 (R184). -/
def execJsrp (a : BitVec 6) (s : State) : Result := .next ((s.push s.P).setP (2#4 ++ a))

/-- JSR a (R185). -/
def execJsr (a : RomAddr) (s : State) : Result := .next ((s.push s.P).setP a)

/-- RET (R186, R298). -/
def execRet (s : State) : Result := .next s.returnWithSavedSkip

/-- RETSK (R187); with a saved skip status pending the spec faults (D9). -/
def execRetsk (s : State) : Result :=
  if s.skipSaved then .fault .retskWithSavedSkip else .next (s.popP.setSkip true)

end Sys2Proof.Machine
end

