-- ==== Sys2Proof/Machine/Sequencer.lean ====
section
/-! DEFINITION. The parts of the complete step (R134) around `execute`: fetch, the skip logic, the cycles,
the interrupt check and what happens before the next step. -/

namespace Sys2Proof.Machine

/-- Fetch and decode the instruction at P, P advanced past it (R121, R123): the page is that of P after the
first byte (R94). Bytes that spell no instruction of the part fault, skipped or not (R108). -/
def State.fetch (s : State) : Except Fault (Instr × State) :=
  let b1 := s.romRead s.P
  let s1 := s.setP s.nextP
  let b2 := s1.romRead s1.P
  match decode s.part (pageOf s1.P) [b1, b2] with
  | .ok (i, _) => .ok (i, if startsTwoByte b1 then s1.setP s1.nextP else s1)
  | .error _ => .error .illegalEncoding

/-- The instruction that decode would find at P, if any (R294). -/
def State.nextInstr (s : State) : Option Instr :=
  match s.fetch with
  | .ok (i, _) => some i
  | .error _ => none

/-- Whether a fetched instruction is passed over, by the skip flag or by the LBI chain (R124, R127). -/
def State.passesOver (s : State) (i : Instr) : Bool := s.skip || (s.lbiChain && i.isLbi)

/-- Passing over an instruction: through `skip` both flags are cleared (R124, R128), in an LBI chain
nothing changes (R127). -/
def State.passOver (s : State) : State := if s.skip then (s.setSkip false).setLbiChain false else s

/-- Before an instruction executes, the chain flag is set for an LBI and cleared for any other (R127). -/
def State.beginInstr (s : State) (i : Instr) : State := s.setLbiChain i.isLbi

/-- `interrupt_due(i, executed)` (R294), at the end of the step of `i`. -/
def State.interruptDue (s : State) (i : Instr) (executed : Bool) : Bool :=
  s.en1 && s.irq && s.part.variant.hasIN
    && !(executed && i.isTransfer && s.nextInstr.any Instr.isTransfer)
    && !(i.isLbi && s.nextInstr.any Instr.isLbi)

/-- The interrupt check (R133): a due interrupt is entered where the outside acknowledges it (R294, D7). -/
def State.interruptCheck (s : State) (i : Instr) (executed : Bool) : State :=
  if s.interruptDue i executed && s.inputs.acknowledge then s.enterInterrupt else s

/-- What follows an instruction in its step: its cycles (R132), the interrupt check (R133), and the events
between this step and the next. -/
def State.finish (s : State) (i : Instr) (executed : Bool) : State :=
  (((s.runCycles s.inputs 0 (i.cycles executed)).interruptCheck i executed).nextInputs).applyEvents
    s.inputs.events

/-- The step with a fetched instruction: pass over it or execute it, then finish (R134). -/
def State.stepWith (s : State) (i : Instr) : Result :=
  if s.passesOver i then .next (s.passOver.finish i false)
  else
    match exec i (s.beginInstr i) with
    | .next s' => .next (s'.finish i true)
    | .fault f => .fault f
    | .refused r => .refused r

/-- The complete step where nothing overrides it (R134). -/
def State.fetchAndRun (s : State) : Result :=
  match s.fetch with
  | .ok (i, s') => s'.stepWith i
  | .error f => .fault f

end Sys2Proof.Machine
end

