-- ==== Sys2Proof/Machine/Step.lean ====
section
/-! DEFINITION. The complete step (R134), and the host's way to place an instruction where it fetches. -/

namespace Sys2Proof.Machine

/-- One step of the machine (R134); RESET and power-up override it (R330). -/
def step (s : State) : Host.Outcome State Fault Refusal :=
  if s.overridden then .next s.overriddenStep else s.fetchAndRun

/-- The state with the instruction of a table word stored in ROM at P, where `step` fetches it
(notes/assumptions/25.md). -/
def State.withFetchWord (s : State) (nbits w : Nat) : State := s.placeAtP (tableBytes nbits w)

end Sys2Proof.Machine
end

