-- ==== Sys2Proof/Machine/Pins.lean ====
section
/-! DEFINITION. The output pins as functions of the state (R46). -/

namespace Sys2Proof.Machine

/-- The SK pin: a level, or one SYNC pulse each instruction cycle (R310). -/
inductive SkLevel where
  | low
  | high
  | sync
  deriving DecidableEq, Repr

/-- The SO pin (R31, R311). -/
def State.soPin (s : State) : Bit :=
  if s.en0 then BitVec.ofBool s.en3 else if s.en3 then s.SIO.extractLsb' 3 1 else 0

/-- The SK pin (R32, R310). -/
def State.skPin (s : State) : SkLevel :=
  if s.SKL = 0 then .low else if s.en0 then .high else .sync

/-- Whether the L drivers are on: EN2, or with MICROBUS the host's RD (IN1) and CS (IN2) low
(R30, R317). -/
def State.lDriversOn (s : State) : Bool :=
  if s.part.microbus then !s.pinIN[1] && !s.pinIN[2] else s.en2

/-- What the chip drives on L7 to L0; `none` is the high-impedance state (R46). -/
def State.lDriven (s : State) : Option Byte := if s.lDriversOn then some s.Q else none

/-- The D pins of a 28-pin or 24-pin part; the COP411L bonds D1 and D0 only (R46, R275). -/
def State.dPins (s : State) : Nibble :=
  if s.part.variant = .cop411L then s.D &&& 3 else s.D

/-- The G pins the chip pulls low: those whose latch bit is 0; the COP411L has no G3 (R46, R275). -/
def State.gPulledLow (s : State) : Nibble :=
  if s.part.variant = .cop411L then ~~~s.G &&& 7 else ~~~s.G

/-- The MICROBUS ready output, G0 (R318). -/
def State.ready (s : State) : Option Bit := if s.part.microbus then some (s.G.extractLsb' 0 1) else none

end Sys2Proof.Machine
end

