-- ==== Sys2Proof/Safety.lean ====
section
/-! DEFINITION. The terms claims use: the invariant of every state a run reaches, the states the spec's
table of reset values admits, and the programs it makes claims about. -/

namespace Sys2Proof.Machine

/-- What the parts without IN pins, or with the COP410L's sizes, never hold: no request, no IL latch and
no saved skip without IN pins (R260, R263, R322); 9-bit program addresses on the COP410L and COP411L
(R268, R269). -/
def State.partInv (s : State) : Bool :=
  (s.part.variant.hasIN || (!s.irq && s.IL3 == 0 && s.IL0 == 0 && !s.skipSaved))
    && (!s.part.variant.isCop410
      || (decide (s.P.toNat < 512) && decide (s.SA.toNat < 512) && decide (s.SB.toNat < 512)))

/-- The invariant: both memories in canonical form and within the part's addresses, never both `skip` and
`lbi_chain` (R128), and the part's own limits. -/
def State.Inv (s : State) : Bool :=
  s.part.wf && s.ram.wf && s.ram.within s.part.cellExists && s.rom.wf && s.rom.within s.part.romHas
    && !(s.skip && s.lbiChain) && s.partInv

/-- The cleared and set state of R48's table, whatever the unspecified state holds (R49): what every
initialization leaves. -/
def State.Initialised (s : State) : Bool :=
  s.P == 0 && s.A == 0 && s.B == 0 && s.C == 0 && s.D == 0 && s.EN == 0 && s.G == 0 && s.SKL == 1
    && !s.skip && !s.lbiChain && !s.skipSaved && !s.irq

/-- The obligations on a program of R335 and R297: CLRA at 0, NOP at 0x0FF. -/
def State.conformingRom (s : State) : Bool := s.romRead 0 == 0x00 && s.romRead interruptEntry == 0x44

/-- A run of `k` steps meets no fault and no refusal. -/
def SafeFor (k : Nat) (s : State) : Prop := ∃ t, Host.Core.run Sys2Proof.core k s = .next t

end Sys2Proof.Machine
end

