-- ==== Sys2Proof/Certificates/Slice0/Obligations.lean ====
section
/-! DEFINITION. The statements for the provers, from the spec's numbered rules. An instruction's statement
holds its encoding, that it completes, its result, and its frame: a next state equal to the old one but
for the fields it names. Where an instruction stores, the cell is `storeCell` of the address and every
other cell of RAM reads as before. -/

open Sys2Proof Sys2Proof.Machine

/-- Decoding the encoding of a well-formed instruction gives it back (R92, R94, R95, R96, R97, R98, R99, R100, R101, R103, R107). -/
def Obligations.DecodeOfEncodeIsTheInstruction : Prop :=
  ∀ (part : Part) (page : Nibble) (i : Instr) (rest : List Byte),
    i.wf = true → i.fitsPage page = true → part.has i = true →
      decode part page (encode i ++ rest) = .ok (i, rest)

/-- Whatever decodes is well-formed, exists on the part, fits the page, and its bytes are its encoding (R91, R92, R94, R98, R99, R100, R113). -/
def Obligations.DecodedBytesAreTheEncoding : Prop :=
  ∀ (part : Part) (page : Nibble) (bytes : List Byte) (i : Instr) (rest : List Byte),
    decode part page bytes = .ok (i, rest) →
      i.wf = true ∧ i.fitsPage page = true ∧ part.has i = true ∧ bytes = encode i ++ rest

/-- Words of the spec's examples decode to the instructions they stand for (R94, R95, R96, R97, R98, R99, R100, R101, R107). -/
def Obligations.WordsOfTheSpecDecode : Prop :=
  decode Part.cop420 0 [0x30] = .ok (.asc, []) ∧
  decode Part.cop420 0 [0x0F] = .ok (.lbi1 0 0, []) ∧
  decode Part.cop420 0 [0x33, 0xA1] = .ok (.lbi2 2 1, []) ∧
  decode Part.cop420 0 [0x62, 0x3F] = .ok (.jmp 0x23F, []) ∧
  decode Part.cop420 2 [0x85] = .ok (.jp7 5, []) ∧
  decode Part.cop420 4 [0x85] = .ok (.jsrp 5, []) ∧
  decode Part.cop420 8 [0xC5] = .ok (.jp6 5, []) ∧
  decode Part.cop420 0 [0x23, 0x2C] = .ok (.ldd 2 12, []) ∧
  decode Part.cop420 0 [0x23, 0xBF] = .ok (.xad 3 15, []) ∧
  decode Part.cop420 0 [0x4B] = .ok (.smb3, []) ∧
  decode Part.cop420 0 [0x33, 0x6D] = .ok (.lei 13, []) ∧
  decode Part.cop420 0 [0x13] = .ok (.skmbz3, []) ∧
  decode Part.cop420 2 [0xBF] = .ok (.lqid, []) ∧
  decode Part.cop420 2 [0xFF] = .ok (.jid, []) ∧
  decode Part.cop420 0 [0x50] = .ok (.cab, [])

/-- Fetching a byte pattern that spells no instruction faults, skipped or not, and no other does (R91, R98,
R99, R100, R108, R113). That these bytes fault is the spec's own decision D11 (log entry 19), and which
bytes they are is general knowledge (log entry 8). -/
def Obligations.IllegalEncodingsAreExactlyTheListed : Prop :=
  ∀ s : State,
    let b1 := (s.romRead s.P).toNat
    let b2 := (s.romRead s.nextP).toNat
    let after33 := b2 ∈ [0x01, 0x03, 0x11, 0x13, 0x21, 0x28, 0x29, 0x2A, 0x2C, 0x2E, 0x3A, 0x3C, 0x3E]
      ∨ (0x50 ≤ b2 ∧ b2 ≤ 0x6F) ∨ (0x80 ≤ b2 ∧ b2 ≤ 0xBF)
    let spellsNothing := (0x64 ≤ b1 ∧ b1 ≤ 0x67) ∨ (0x6C ≤ b1 ∧ b1 ≤ 0x6F)
      ∨ (b1 = 0x23 ∧ ((0x40 ≤ b2 ∧ b2 ≤ 0x7F) ∨ 0xC0 ≤ b2)) ∨ (b1 = 0x33 ∧ ¬ after33)
    (spellsNothing → s.overridden = false → step s = .fault .illegalEncoding) ∧
    (¬ spellsNothing → s.part.variant.hasIN = true → step s ≠ .fault .illegalEncoding)

/-- The encodings a part has deleted are illegal encodings there (R108, R261, R271, R274). The fault is the
spec's own decision D11 (log entry 19); that INIL, XABR and the two-byte LBI are absent is general knowledge
(G4, log entry 21). -/
def Obligations.DeletedInstructionsFault : Prop :=
  ∀ s : State, s.overridden = false →
    let b1 := (s.romRead s.P).toNat
    let b2 := (s.romRead s.nextP).toNat
    (s.part.variant.isCop410 = true →
      b1 ∈ [0x10, 0x4A, 0x41, 0x12] ∨ (b1 = 0x23 ∧ b2 ≠ 0xBF)
        ∨ (b1 = 0x33 ∧ (b2 ∈ [0x2C, 0x28, 0x29] ∨ (0x50 ≤ b2 ∧ b2 ≤ 0x5F) ∨ (0x80 ≤ b2 ∧ b2 ≤ 0xBF))) →
      step s = .fault .illegalEncoding) ∧
    (s.part.variant.hasIN = false → b1 = 0x33 → b2 = 0x28 → step s = .fault .illegalEncoding)

/-- A step runs the instruction decoded at P (R121, R123, R127, R134). -/
def Obligations.StepExecutesTheDecodedInstruction : Prop :=
  ∀ (s : State) (i : Instr) (rest : List Byte),
    decode s.part (pageOf s.nextP) [s.romRead s.P, s.romRead s.nextP] = .ok (i, rest) →
    s.overridden = false → s.skip = false → (s.lbiChain = true → i.isLbi = false) →
      step s =
        match exec i { s with
            P := if i.twoByte then s.part.romAddr (s.nextP + 1) else s.nextP
            lbiChain := i.isLbi } with
        | .next t => .next (t.finish i true)
        | .fault f => .fault f
        | .refused r => .refused r

/-- With skip set the whole next instruction is passed over (R124, R126, R128). That a skip covers both
bytes is the spec's own decision D2, that a skipped LBI starts no chain D4 (log entry 16). -/
def Obligations.SkippedInstructionHasNoEffect : Prop :=
  ∀ (s : State) (i : Instr) (rest : List Byte),
    decode s.part (pageOf s.nextP) [s.romRead s.P, s.romRead s.nextP] = .ok (i, rest) →
    s.overridden = false → s.skip = true →
      step s = .next (State.finish { s with
        P := if i.twoByte then s.part.romAddr (s.nextP + 1) else s.nextP
        skip := false
        lbiChain := false } i false)

/-- An LBI that follows an executed LBI is passed over, in either form (R127). -/
def Obligations.LbiChainPassesOverLbis : Prop :=
  ∀ (s : State) (i : Instr) (rest : List Byte),
    decode s.part (pageOf s.nextP) [s.romRead s.P, s.romRead s.nextP] = .ok (i, rest) →
    s.overridden = false → s.skip = false → s.lbiChain = true → i.isLbi = true →
      step s = .next (State.finish { s with
        P := if i.twoByte then s.part.romAddr (s.nextP + 1) else s.nextP } i false)

/-- The cycles of a step tick the time-base counter and shift SIO, and nothing else but an interrupt happens (R132, R305, R308, R345). -/
def Obligations.CyclesDriveTimerAndSerialRegister : Prop :=
  ∀ (s : State) (i : Instr) (e : Bool), s.inputs.events = [] →
    let n := if i.twoByte = true ∨ (e = true ∧ (i = .jid ∨ i = .lqid)) then 2 else 1
    let t := s.finish i e
    (s.part.variant.isCop410 = false →
      t.TC.toNat = (s.TC.toNat + n) % 1024 ∧ t.T = (s.T || decide (1024 ≤ s.TC.toNat + n))) ∧
    (s.part.variant.isCop410 = true → t.TC = s.TC ∧ t.T = s.T) ∧
    (s.en0 = true → t.SIO = s.SIO) ∧
    (s.en0 = false →
      t.SIO.toNat = if n = 2
        then (4 * s.SIO.toNat + 2 * s.inputs.si0.toNat + s.inputs.si1.toNat) % 16
        else (2 * s.SIO.toNat + s.inputs.si0.toNat) % 16) ∧
    t = { s with
      TC := t.TC, T := t.T, SIO := t.SIO, script := s.script.tail, free := s.free + 1
      P := t.P, SA := t.SA, SB := t.SB, SC := t.SC, EN := t.EN, skip := t.skip
      skipSaved := t.skipSaved, lbiChain := t.lbiChain, irq := t.irq }

/-- The interrupt is entered at the end of a step exactly when R294's condition holds and it is acknowledged
there (R294, R295, R296). The spec's own decisions and the model's choices: D7 (log entry 11), D18 (16), an
undecodable next word (19), EN1 with MICROBUS (22). -/
def Obligations.InterruptEnteredExactlyWhenDueAndAcknowledged : Prop :=
  ∀ (s : State) (i : Instr) (e : Bool), s.inputs.events = [] →
    let t := s.finish i e
    let due := s.part.variant.hasIN = true ∧ s.EN[1] = true ∧ s.irq = true
      ∧ ¬ (e = true ∧ i.isTransfer = true ∧ ∃ j, s.nextInstr = some j ∧ j.isTransfer = true)
      ∧ ¬ (i.isLbi = true ∧ ∃ j, s.nextInstr = some j ∧ j.isLbi = true)
    (due ∧ s.inputs.acknowledge = true →
      t.SA = s.P ∧ t.SB = s.SA ∧ t.SC = s.SB ∧ t.P = 0x0FF ∧ t.skipSaved = s.skip ∧ t.skip = false
        ∧ t.lbiChain = false ∧ t.EN = s.EN &&& 0b1101 ∧ t.irq = false) ∧
    (¬ (due ∧ s.inputs.acknowledge = true) →
      t.P = s.P ∧ t.SA = s.SA ∧ t.SB = s.SB ∧ t.SC = s.SC ∧ t.EN = s.EN ∧ t.skip = s.skip
        ∧ t.skipSaved = s.skipSaved ∧ t.lbiChain = s.lbiChain ∧ t.irq = s.irq)

/-- Interrupt entry pushes the next address, saves the skip status and resets EN1, and changes nothing else (R295). -/
def Obligations.InterruptEntrySavesAddressAndSkip : Prop :=
  ∀ s : State, s.part.variant.hasIN = true →
    ∃ t, s.enterInterrupt = t ∧ t.SA = s.P ∧ t.SB = s.SA ∧ t.SC = s.SB ∧ t.skipSaved = s.skip
      ∧ t.skip = false ∧ t.lbiChain = false ∧ t.P = 0x0FF ∧ t.EN[1] = false
      ∧ t.EN[0] = s.EN[0] ∧ t.EN[2] = s.EN[2] ∧ t.EN[3] = s.EN[3] ∧ t.irq = false
      ∧ t = { s with
          SA := t.SA, SB := t.SB, SC := t.SC, skipSaved := t.skipSaved, skip := t.skip
          lbiChain := t.lbiChain, P := t.P, EN := t.EN, irq := t.irq }

/-- RET right after an interrupt entry restores P, the skip status and the stack but for SC (R296, R298). -/
def Obligations.RetAfterInterruptImplementsSavedSkip : Prop :=
  ∀ s : State, s.part.variant.hasIN = true →
    exec .ret s.enterInterrupt =
      .next { s with
        SC := s.SB
        skipSaved := false
        lbiChain := false
        EN := s.EN &&& 0b1101
        irq := false }

/-- Every step keeps the machine's invariant (R128, R260, R263, R268, R269, R270, R322). -/
def Obligations.StepKeepsTheInvariant : Prop :=
  ∀ s t : State, s.Inv = true → step s = .next t → t.Inv = true

/-- The state after reset satisfies the invariant and holds the reset values of R48's table (R48, R128,
R331, R333). A RESET of ten cycles or more: the model's choice (log entry 2). The flags and irq are the
spec's decisions D6 and D10 (log entry 6); SKL, TC and T are DEDUCED (R38, D28; log entry 7). -/
def Obligations.ResetSatisfiesTheInvariant : Prop :=
  State.reset.Inv = true ∧ State.reset.Initialised = true ∧ State.reset.TC = 0 ∧ State.reset.T = true

/-- No step changes program memory or the part's parameters, along any run (R9, R61, R75). -/
def Obligations.StepKeepsProgramMemoryAndPart : Prop :=
  ∀ (k : Nat) (s t : State), Host.Core.run Sys2Proof.core k s = .next t →
    t.rom = s.rom ∧ t.part = s.part

/-- A step refuses nothing and faults only for the three reasons of the spec (R108, R187, R262, R290). -/
def Obligations.StepStopsOnlyForTheSpecsThreeReasons : Prop :=
  ∀ s : State,
    (∀ r, step s ≠ .refused r) ∧
    (∀ f, step s = .fault f → s.overridden = false ∧
      ((f = .illegalEncoding ∧
        ∃ e, decode s.part (pageOf s.nextP) [s.romRead s.P, s.romRead s.nextP] = .error e) ∨
      (f = .retskWithSavedSkip ∧ s.romRead s.P = 0x49 ∧ s.skip = false ∧ s.skipSaved = true) ∨
      (f = .inilNonFunctional ∧ s.romRead s.P = 0x33 ∧ s.romRead s.nextP = 0x29 ∧ s.skip = false
        ∧ s.part.variant.hasIN = false ∧ s.part.cko ≠ .generalInput)))

/-- Only the instructions of R125 can set skip, and only RET restores it (R125, R298). -/
def Obligations.OnlyTheListedInstructionsSetSkip : Prop :=
  ∀ (i : Instr) (s t : State), exec i s = .next t →
    (i ∉ [.asc, .casc, .retsk, .ret, .skc, .ske, .skgbz0, .skgbz1, .skgbz2, .skgbz3, .skgz,
        .skmbz0, .skmbz1, .skmbz2, .skmbz3, .skt] →
      (∀ y, i ≠ .aisc y) → (∀ r, i ≠ .xds r) → (∀ r, i ≠ .xis r) → t.skip = s.skip) ∧
    (i ≠ .ret → t.skipSaved = s.skipSaved) ∧
    t.lbiChain = s.lbiChain ∧ t.irq = s.irq

/-- C, EN, Q, G, D, SIO, SKL, the IL latches, T and TC are written only by the instructions the spec names (R22, R26, R27, R35, R36, R37, R38, R39, R40). -/
def Obligations.RegistersAreWrittenOnlyByTheirInstructions : Prop :=
  ∀ (i : Instr) (s t : State), exec i s = .next t →
    (i ∉ [.asc, .casc, .sc, .rc] → t.C = s.C) ∧
    ((∀ y, i ≠ .lei y) → t.EN = s.EN) ∧
    (i ∉ [.camq, .lqid] → t.Q = s.Q) ∧
    (i ≠ .omg → (∀ y, i ≠ .ogi y) → t.G = s.G) ∧
    (i ≠ .obd → t.D = s.D) ∧
    (i ≠ .xas → t.SIO = s.SIO ∧ t.SKL = s.SKL) ∧
    (i ≠ .inil → t.IL3 = s.IL3 ∧ t.IL0 = s.IL0) ∧
    (i ≠ .skt → t.T = s.T) ∧
    t.TC = s.TC

/-- P, the stack and data memory are written only by the instructions the spec names (R25, R180, R188, R205, R214, R269). -/
def Obligations.ControlAndMemoryAreWrittenOnlyByTheirInstructions : Prop :=
  ∀ (i : Instr) (s t : State), exec i s = .next t →
    (i.isTransfer = false → t.P = s.P) ∧
    (i ∉ [.ret, .retsk] → (∀ a, i ≠ .jsr a) → (∀ a, i ≠ .jsrp a) → t.SA = s.SA ∧
      (i ≠ .lqid ∨ s.part.variant.isCop410 = false → t.SB = s.SB)) ∧
    (i ≠ .lqid → (∀ a, i ≠ .jsr a) → (∀ a, i ≠ .jsrp a) → t.SC = s.SC) ∧
    (i ∉ [.cqma, .inl, .rmb0, .rmb1, .rmb2, .rmb3, .smb0, .smb1, .smb2, .smb3] →
      (∀ y, i ≠ .stii y) → (∀ r, i ≠ .x r) → (∀ r d, i ≠ .xad r d) → (∀ r, i ≠ .xds r) →
      (∀ r, i ≠ .xis r) → t.ram = s.ram)

/-- 1024 ticks bring the time-base counter back and set T, and T is not set before the wrap (R40, R305). -/
def Obligations.TimeBaseCounterDividesBy1024 : Prop :=
  ∀ s : State, s.part.variant.isCop410 = false →
    (∀ k, s.TC.toNat + k < 1024 →
      State.tickTimeBase^[k] s = { s with TC := s.TC + BitVec.ofNat 10 k }) ∧
    State.tickTimeBase^[1024] s = { s with T := true }

/-- Four shifts replace SIO by the four SI samples, the oldest in bit 3 (R308, R343). -/
def Obligations.FourShiftsReadFourSerialBits : Prop :=
  ∀ (s : State) (a b c d : Bit), ∃ t,
    (((s.shiftSIO a).shiftSIO b).shiftSIO c).shiftSIO d = t ∧
    t.SIO.toNat = 8 * a.toNat + 4 * b.toNat + 2 * c.toNat + d.toNat ∧ t = { s with SIO := t.SIO }

/-- RESET and power-up override the step and initialise; RESET keeps data memory and the IL latches,
power-up data memory only with Vr held (R48, R49, R78, R300, R321, R330, R331, R333, R337). SKL, TC and T
after it are DEDUCED (R38, D28; log entry 7), the flags and irq too (D6, D10; log entry 6); the free values
are log entries 23 and 24. How far a cut instruction had come is the model's choice (log entry 32). -/
def Obligations.ResetPulseInitialises : Prop :=
  ∀ (s : State) (ten held : Bool),
    let t := s.applyEvent (.reset ten)
    let u := s.applyEvent (.powerUp held)
    (∀ v ∈ [t, u],
      v.P = 0 ∧ v.A = 0 ∧ v.B = 0 ∧ v.C = 0 ∧ v.D = 0 ∧ v.EN = 0 ∧ v.G = 0 ∧ v.skPin = .sync
        ∧ v.Initialised = true ∧ v.rom = s.rom ∧ v.part = s.part ∧ v.script = s.script
        ∧ v.Q = Config.resetQ s.free ∧ v.SIO = Config.resetSIO s.free
        ∧ v.SA = s.part.romAddr (Config.resetSA s.free)
        ∧ v.SB = s.part.romAddr (Config.resetSB s.free)) ∧
    (t.IL3 = s.IL3 ∧ t.IL0 = s.IL0 ∧ t.ram = s.ram) ∧
    (s.part.variant.isCop410 = false →
      (ten = true → t.TC = 0 ∧ t.T = true) ∧
      (ten = false → t.TC = Config.resetTC s.free ∧ t.T = Config.resetT s.free) ∧
      u.TC = Config.resetTC s.free ∧ u.T = Config.resetT s.free ∧
      t.SC = Config.resetSC s.free ∧ u.SC = Config.resetSC s.free) ∧
    (s.part.cko = .ramSupply ∧ held = true → u.ram = s.ram) ∧
    (¬ (s.part.cko = .ramSupply ∧ held = true) → u.ram.wf = true ∧
      ∀ c, s.part.cellExists c = true → u.ram.read c = Config.powerUpRam s.free c) ∧
    (s.part.variant.hasIN = true →
      u.IL3 = Config.powerUpIL3 s.free ∧ u.IL0 = Config.powerUpIL0 s.free) ∧
    (s.part.variant.hasIN = false → u.IL3 = s.IL3 ∧ u.IL0 = s.IL0) ∧
    (s.overridden = true ↔ .reset true ∈ s.inputs.events ∨ .reset false ∈ s.inputs.events
      ∨ .powerUp true ∈ s.inputs.events ∨ .powerUp false ∈ s.inputs.events) ∧
    (s.overridden = true →
      step s = .next (State.applyEvents { s with script := s.script.tail, free := s.free + 1 }
        s.inputs.events)) ∧
    (∀ es ev, s.inputs.events = es ++ [ev] → ev.initialises = true →
      ∃ v, step s = .next v ∧ v.Initialised = true)

/-- The pulses, edges and host writes between steps change only the latch the spec gives them, and a step
applies its events last, in order, once each (R293, R309, R313, R315, R316, R318, R322). When events land is
the model's choice (log entry 10). The spec's own decisions and the model's choices: a pulse with EN1 = 0
(D10, log entry 12); IN pulses with MICROBUS, and the ready output as bit 0 of G (log entry 22). -/
def Obligations.OutsideEventsChangeTheirOwnLatch : Prop :=
  ∀ (s : State) (b : Bool) (v : Byte),
    (s.part.variant.hasIN = true →
      s.applyEvent (.pulseIN1 b) = { s with irq := s.irq || s.EN[1] || b }
        ∧ s.applyEvent .pulseIN3 = { s with IL3 := 1 } ∧ s.applyEvent .pulseIN0 = { s with IL0 := 1 }) ∧
    (s.part.variant.hasIN = false →
      s.applyEvent (.pulseIN1 b) = s ∧ s.applyEvent .pulseIN3 = s ∧ s.applyEvent .pulseIN0 = s) ∧
    (s.EN[0] = true → ∃ n, s.applyEvent .fallSI = { s with SIO := n } ∧
      n.toNat = (s.SIO.toNat + 15) % 16) ∧
    (s.EN[0] = false → s.applyEvent .fallSI = s) ∧
    (s.part.microbus = true → ∃ g, s.applyEvent (.hostWrite v) = { s with Q := v, G := g } ∧
      g[0] = false ∧ g[1] = s.G[1] ∧ g[2] = s.G[2] ∧ g[3] = s.G[3]) ∧
    (s.part.microbus = false → s.applyEvent (.hostWrite v) = s) ∧
    (∀ (i : Instr) (executed : Bool) (inp : Inputs) (rest : List Inputs), s.script = inp :: rest →
      s.finish i executed =
        (State.finish { s with script := { inp with events := [] } :: rest } i executed).applyEvents
          inp.events) ∧
    s.applyEvents [] = s ∧
    ∀ (ev : Event) (es : List Event), s.applyEvents (ev :: es) = (s.applyEvent ev).applyEvents es

/-- SO and SK are as the EN3 and EN0 table says, L outputs Q as EN2 or the host says, D and G output their
latches, and G0 is the MICROBUS ready output (R30, R32, R35, R36, R46, R275, R310, R311, R316, R317, R318).
The model's choices: SYNC as one level of SK (log entry 30), the ready output as bit 0 of G (log entry 22),
the pins the COP411L lacks (log entry 31). -/
def Obligations.SerialPinsFollowEnAndSkl : Prop :=
  ∀ s : State,
    (s.EN[0] = false → s.EN[3] = true → s.soPin = BitVec.ofBool s.SIO[3]) ∧
    (s.EN[0] = false → s.EN[3] = false → s.soPin = 0) ∧
    (s.EN[0] = true → s.soPin = BitVec.ofBool s.EN[3]) ∧
    (s.SKL = 0 → s.skPin = .low) ∧
    (s.SKL = 1 → s.EN[0] = false → s.skPin = .sync) ∧
    (s.SKL = 1 → s.EN[0] = true → s.skPin = .high) ∧
    (s.part.microbus = false → s.lDriven = if s.EN[2] = true then some s.Q else none) ∧
    (s.part.microbus = true → s.lDriven =
      if s.inputs.pinIN[1] = false ∧ s.inputs.pinIN[2] = false then some s.Q else none) ∧
    (s.part.variant ≠ .cop411L → s.dPins = s.D ∧
      ∀ k : Fin 4, s.gPulledLow[k] = !s.G[k]) ∧
    (s.part.variant = .cop411L → s.dPins.toNat = s.D.toNat % 4 ∧ s.gPulledLow[3] = false ∧
      ∀ k : Fin 3, s.gPulledLow[k.val] = !s.G[k.val]) ∧
    (s.part.microbus = true → s.ready = some (BitVec.ofBool s.G[0])) ∧
    (s.part.microbus = false → s.ready = none)

/-- Each of the 64 digits reads back what was written to it, and a write changes no other (R66, R67, R200, R214). -/
def Obligations.RamDigitsReadBackWhatWasWritten : Prop :=
  ∀ (s : State) (r r' : BitVec 2) (d d' : Nibble) (v : Nibble),
    s.part.variant.isCop410 = false → s.ram.wf = true →
      (s.writeDigit (r ++ d) v).readDigit (r' ++ d') =
        (if r = r' ∧ d = d' then v else s.readDigit (r' ++ d')) ∧
      s.M = s.ram.read s.B.toNat

/-- On the COP410L and COP411L digits 1 to 7 are the cells of digits 9 to 15, digit 0 is its own and digit 8
some cell (R270). Digit 8 is the spec's own decision D29 (log entry 21). -/
def Obligations.Cop410DigitsOneToSevenAreNineToFifteen : Prop :=
  ∀ (s : State) (r : BitVec 2) (v : Nibble),
    s.part.variant.isCop410 = true → s.ram.wf = true →
      (∀ d : Nibble, 1 ≤ d.toNat → d.toNat ≤ 7 →
        let cell := 16 * r.toNat + d.toNat + 8
        s.readDigit (r ++ d) = s.ram.read cell ∧
        s.readDigit (r ++ (d + 8)) = s.ram.read cell ∧
        (s.writeDigit (r ++ d) v).readDigit (r ++ (d + 8)) = v ∧
        (s.writeDigit (r ++ (d + 8)) v).readDigit (r ++ d) = v ∧
        (∀ c, c ≠ cell → (s.writeDigit (r ++ d) v).ram.read c = s.ram.read c) ∧
        ∀ c, c ≠ cell → (s.writeDigit (r ++ (d + 8)) v).ram.read c = s.ram.read c) ∧
      s.readDigit (r ++ 0#4) = s.ram.read (16 * r.toNat) ∧
      (s.writeDigit (r ++ 0#4) v).readDigit (r ++ 0#4) = v ∧
      (∀ c, c ≠ 16 * r.toNat → (s.writeDigit (r ++ 0#4) v).ram.read c = s.ram.read c) ∧
      s.readDigit (r ++ 8#4) = Config.digit8Value s.free ∧
      s.part.cellExists (s.storeCell (r ++ 8#4)) = true ∧
      ∀ c, c ≠ s.storeCell (r ++ 8#4) → (s.writeDigit (r ++ 8#4) v).ram.read c = s.ram.read c

/-- Three levels of return addresses pop in order and a fourth push loses the oldest (R33, R34, R188). -/
def Obligations.FourthPushLosesTheOldestAddress : Prop :=
  ∀ (s : State) (a b c d : RomAddr), s.part.variant.isCop410 = false →
    let t := (((s.push a).push b).push c).push d
    t.popP.P = d ∧ t.popP.popP.P = c ∧ t.popP.popP.popP.P = b ∧ t.popP.popP.popP.popP.P = b ∧
    t.popP.popP.popP = { s with P := b, SA := b, SB := b, SC := b }

/-- ASC adds A, M and C into A and C and skips on carry (R141). -/
def Obligations.AscAddsWithCarryAndSkips : Prop :=
  encode .asc = [0x30] ∧
  ∀ s : State, ∃ t, exec .asc s = .next t ∧
    t.A.toNat = (s.A.toNat + s.M.toNat + s.C.toNat) % 16 ∧
    t.C.toNat = (s.A.toNat + s.M.toNat + s.C.toNat) / 16 ∧
    t.skip = (s.skip || decide (16 ≤ s.A.toNat + s.M.toNat + s.C.toNat)) ∧
    t = { s with A := t.A, C := t.C, skip := t.skip }

/-- ADD adds M to A, ADT adds ten to A, and neither affects C or skip (R142, R143). -/
def Obligations.AddAndAdtAddWithoutCarry : Prop :=
  encode .add = [0x31] ∧ encode .adt = [0x4A] ∧
  (∀ p : Part, p.variant.isCop410 = true → p.has .adt = false) ∧
  ∀ s : State,
    (∃ t, exec .add s = .next t ∧ t.A.toNat = (s.A.toNat + s.M.toNat) % 16 ∧
      t = { s with A := t.A }) ∧
    (∃ t, exec .adt s = .next t ∧ t.A.toNat = (s.A.toNat + 10) % 16 ∧ t = { s with A := t.A })

/-- AISC y adds y to A and skips on carry, leaving C (R144). -/
def Obligations.AiscAddsImmediateAndSkips : Prop :=
  ∀ y : Nibble,
    encode (.aisc y) = [BitVec.ofNat 8 (0x50 + y.toNat)] ∧ (Instr.aisc y).wf = decide (y.toNat ≠ 0) ∧
    ∀ s : State, ∃ t, exec (.aisc y) s = .next t ∧
      t.A.toNat = (s.A.toNat + y.toNat) % 16 ∧
      t.skip = (s.skip || decide (16 ≤ s.A.toNat + y.toNat)) ∧
      t = { s with A := t.A, skip := t.skip }

/-- CASC adds the complement of A, M and C into A and C and skips on carry, as COMP then ASC does (R145). -/
def Obligations.CascSubtractsAndSkipsOnNoBorrow : Prop :=
  encode .casc = [0x10] ∧ (∀ p : Part, p.variant.isCop410 = true → p.has .casc = false) ∧
  ∀ s : State,
    (∃ t, exec .casc s = .next t ∧
      t.A.toNat = (15 - s.A.toNat + s.M.toNat + s.C.toNat) % 16 ∧
      t.C.toNat = (15 - s.A.toNat + s.M.toNat + s.C.toNat) / 16 ∧
      t.skip = (s.skip || decide (16 ≤ 15 - s.A.toNat + s.M.toNat + s.C.toNat)) ∧
      (s.C = 1 → (t.C = 1 ↔ s.A.toNat ≤ s.M.toNat)) ∧
      t = { s with A := t.A, C := t.C, skip := t.skip }) ∧
    (∃ u, exec .comp s = .next u ∧ exec .asc u = exec .casc s)

/-- CLRA clears A, COMP complements A, NOP does nothing (R146, R147, R148). -/
def Obligations.ClraCompAndNopComplete : Prop :=
  encode .clra = [0x00] ∧ encode .comp = [0x40] ∧ encode .nop = [0x44] ∧
  ∀ s : State,
    exec .clra s = .next { s with A := 0 } ∧
    (∃ t, exec .comp s = .next t ∧ t.A.toNat = 15 - s.A.toNat ∧ t = { s with A := t.A }) ∧
    exec .nop s = .next s

/-- RC resets C and SC sets C (R149, R150). -/
def Obligations.RcAndScWriteCarry : Prop :=
  encode .rc = [0x32] ∧ encode .sc = [0x22] ∧
  ∀ s : State, exec .rc s = .next { s with C := 0 } ∧ exec .sc s = .next { s with C := 1 }

/-- XOR puts the exclusive-or of each bit of A and M into A (R151). -/
def Obligations.XorExclusiveOrsEachBit : Prop :=
  encode .xor = [0x02] ∧
  ∀ s : State, ∃ t, exec .xor s = .next t ∧
    (∀ k : Fin 4, t.A[k] = (s.A[k] != s.M[k])) ∧ t = { s with A := t.A }

/-- ING reads the G pins and ININ the IN pins into A (R160, R161, R261). -/
def Obligations.IngAndIninReadPins : Prop :=
  encode .ing = [0x33, 0x2A] ∧ encode .inin = [0x33, 0x28] ∧
  (∀ p : Part, p.variant.hasIN = false → p.has .inin = false) ∧
  ∀ s : State,
    exec .ing s = .next { s with A := s.inputs.pinG } ∧
    exec .inin s = .next { s with A := s.inputs.pinIN }

/-- INIL puts IL3, CKO, 0, IL0 into A and resets both latches; without IN pins it reads CKO alone or faults
(R162, R262). The fault is the spec's own decision D30 (log entry 20). -/
def Obligations.InilReadsAndResetsTheLatches : Prop :=
  encode .inil = [0x33, 0x29] ∧
  ∀ s : State,
    (s.part.variant.hasIN = true → ∃ t, exec .inil s = .next t ∧
      t.A.toNat = 8 * s.IL3.toNat
        + 4 * (if s.part.cko = .generalInput then s.inputs.pinCKO.toNat else 1) + s.IL0.toNat ∧
      t = { s with A := t.A, IL3 := 0, IL0 := 0 }) ∧
    (s.part.variant.hasIN = false → s.part.cko = .generalInput → ∃ t, exec .inil s = .next t ∧
      t.A.toNat = 4 * s.inputs.pinCKO.toNat ∧ t = { s with A := t.A }) ∧
    (s.part.variant.hasIN = false → s.part.cko ≠ .generalInput →
      exec .inil s = .fault .inilNonFunctional)

/-- INL puts L7 to L4 into M and L3 to L0 into A (R163). -/
def Obligations.InlLoadsMAndAFromL : Prop :=
  encode .inl = [0x33, 0x2E] ∧
  ∀ s : State, s.ram.wf = true → ∃ t, exec .inl s = .next t ∧
    (t.ram.read (s.storeCell s.B)).toNat = s.inputs.pinL.toNat / 16 ∧
    t.A.toNat = s.inputs.pinL.toNat % 16 ∧
    (∀ c, c ≠ s.storeCell s.B → t.ram.read c = s.ram.read c) ∧
    t = { s with A := t.A, ram := t.ram }

/-- OBD loads D from Bd, OGI loads G from y, OMG loads G from M (R164, R165, R166). -/
def Obligations.OutputInstructionsLoadTheirLatch : Prop :=
  encode .obd = [0x33, 0x3E] ∧ encode .omg = [0x33, 0x3A] ∧
  ∀ (y : Nibble) (s : State),
    encode (.ogi y) = [0x33, BitVec.ofNat 8 (0x50 + y.toNat)] ∧
    (s.part.variant.isCop410 = true → s.part.has (.ogi y) = false) ∧
    (∃ t, exec .obd s = .next t ∧ t.D.toNat = s.B.toNat % 16 ∧ t = { s with D := t.D }) ∧
    exec (.ogi y) s = .next { s with G := y } ∧
    exec .omg s = .next { s with G := s.M }

/-- XAS exchanges A with SIO and copies C into SKL (R167). -/
def Obligations.XasExchangesAWithSioAndCopiesCarry : Prop :=
  encode .xas = [0x4F] ∧
  ∀ s : State, exec .xas s = .next { s with A := s.SIO, SIO := s.A, SKL := s.C }

/-- JID loads the low 8 bits of P with the ROM word pointed to by P9:P8, A and M (R181). -/
def Obligations.JidJumpsThroughTheRomPointer : Prop :=
  encode .jid = [0xFF] ∧
  ∀ s : State, ∃ t, exec .jid s = .next t ∧
    t.P.toNat = 256 * (s.P.toNat / 256)
      + (s.rom.read (256 * (s.P.toNat / 256) + 16 * s.A.toNat + s.M.toNat)).toNat ∧
    t = { s with P := t.P }

/-- JMP loads P with its 10-bit address; JSR pushes P first (R33, R182, R185, R269). That SC is kept on the
two-level parts is derived in R269 (log entry 21). -/
def Obligations.JmpLoadsPAndJsrPushesToo : Prop :=
  ∀ (a : RomAddr) (s : State),
    encode (.jmp a) = [BitVec.ofNat 8 (0x60 + a.toNat / 256), BitVec.ofNat 8 a.toNat] ∧
    encode (.jsr a) = [BitVec.ofNat 8 (0x68 + a.toNat / 256), BitVec.ofNat 8 a.toNat] ∧
    exec (.jmp a) s = .next { s with P := a } ∧
    exec (.jsr a) s = .next { s with
      P := a
      SA := s.P
      SB := s.SA
      SC := if s.part.variant.isCop410 = true then s.SC else s.SB }

/-- JP places its 7-bit field in P6-P0 in pages 2 and 3 and its 6-bit field in P5-P0 elsewhere (R183). -/
def Obligations.JpJumpsWithinThePage : Prop :=
  (∀ (a : BitVec 7) (s : State),
    encode (.jp7 a) = [BitVec.ofNat 8 (0x80 + a.toNat)] ∧
    (Instr.jp7 a).wf = decide (a.toNat ≠ 0x7F ∧ a.toNat ≠ 0x3F) ∧
    (Instr.jp7 a).fitsPage (pageOf s.P) = decide (s.P.toNat / 64 = 2 ∨ s.P.toNat / 64 = 3) ∧
    ∃ t, exec (.jp7 a) s = .next t ∧ t.P.toNat = 128 * (s.P.toNat / 128) + a.toNat ∧
      (s.P.toNat / 64 = 2 ∨ s.P.toNat / 64 = 3 → t.P.toNat = 0x080 + a.toNat) ∧
      t = { s with P := t.P }) ∧
  (∀ (a : BitVec 6) (s : State),
    encode (.jp6 a) = [BitVec.ofNat 8 (0xC0 + a.toNat)] ∧
    (Instr.jp6 a).wf = decide (a.toNat ≠ 0x3F) ∧
    (Instr.jp6 a).fitsPage (pageOf s.P) = decide (¬ (s.P.toNat / 64 = 2 ∨ s.P.toNat / 64 = 3)) ∧
    ∃ t, exec (.jp6 a) s = .next t ∧ t.P.toNat = 64 * (s.P.toNat / 64) + a.toNat ∧
      t = { s with P := t.P })

/-- JSRP pushes the next address and jumps to word a of page 2 (R33, R94, R105, R184, R269). That SC is kept
on the two-level parts is derived in R269 (log entry 21). -/
def Obligations.JsrpCallsIntoPageTwo : Prop :=
  ∀ (a : BitVec 6) (s : State),
    encode (.jsrp a) = [BitVec.ofNat 8 (0x80 + a.toNat)] ∧
    (Instr.jsrp a).wf = decide (a.toNat ≠ 0x3F) ∧
    (Instr.jsrp a).fitsPage (pageOf s.P) = decide (¬ (s.P.toNat / 64 = 2 ∨ s.P.toNat / 64 = 3)) ∧
    ∃ t, exec (.jsrp a) s = .next t ∧ t.P.toNat = 0x080 + a.toNat ∧ t.SA = s.P ∧ t.SB = s.SA ∧
      t.SC = (if s.part.variant.isCop410 = true then s.SC else s.SB) ∧
      t = { s with P := t.P, SA := t.SA, SB := t.SB, SC := t.SC }

/-- RET pops the stack into P and implements the saved skip status (R34, R186, R269, R298). -/
def Obligations.RetPopsAndRestoresSkip : Prop :=
  encode .ret = [0x48] ∧
  ∀ s : State, exec .ret s = .next { s with
    P := s.SA
    SA := s.SB
    SB := if s.part.variant.isCop410 = true then s.SB else s.SC
    skip := s.skipSaved
    skipSaved := false }

/-- RETSK pops the stack into P and always skips, and faults where a skip status is saved (R34, R187, R269). -/
def Obligations.RetskPopsAndSkips : Prop :=
  encode .retsk = [0x49] ∧
  ∀ s : State,
    (s.skipSaved = false → exec .retsk s = .next { s with
      P := s.SA
      SA := s.SB
      SB := if s.part.variant.isCop410 = true then s.SB else s.SC
      skip := true }) ∧
    (s.skipSaved = true → exec .retsk s = .fault .retskWithSavedSkip)

/-- CAMQ puts A into Q7 to Q4 and M into Q3 to Q0 (R201). -/
def Obligations.CamqLoadsQ : Prop :=
  encode .camq = [0x33, 0x3C] ∧
  ∀ s : State, ∃ t, exec .camq s = .next t ∧ t.Q.toNat = 16 * s.A.toNat + s.M.toNat ∧
    t = { s with Q := t.Q }

/-- CQMA puts Q7 to Q4 into M and Q3 to Q0 into A (R202). -/
def Obligations.CqmaLoadsMAndA : Prop :=
  encode .cqma = [0x33, 0x2C] ∧ (∀ p : Part, p.variant.isCop410 = true → p.has .cqma = false) ∧
  ∀ s : State, s.ram.wf = true → ∃ t, exec .cqma s = .next t ∧
    (t.ram.read (s.storeCell s.B)).toNat = s.Q.toNat / 16 ∧ t.A.toNat = s.Q.toNat % 16 ∧
    (∀ c, c ≠ s.storeCell s.B → t.ram.read c = s.ram.read c) ∧
    t = { s with A := t.A, ram := t.ram }

/-- LD loads A from M and exclusive-ORs Br with r; LDD loads A from the digit r:d (R203, R204). -/
def Obligations.LdAndLddLoadA : Prop :=
  ∀ (r : BitVec 2) (d : Nibble) (s : State),
    encode (.ld r) = [BitVec.ofNat 8 (0x05 + 16 * r.toNat)] ∧
    encode (.ldd r d) = [0x23, BitVec.ofNat 8 (16 * r.toNat + d.toNat)] ∧
    (s.part.variant.isCop410 = true → s.part.has (.ldd r d) = false) ∧
    (∃ t, exec (.ld r) s = .next t ∧ t.A = s.M ∧ t.br = s.br ^^^ r ∧ t.bd = s.bd ∧
      t = { s with A := t.A, B := t.B }) ∧
    exec (.ldd r d) s = .next { s with A := s.readDigit (r ++ d) }

/-- LQID loads Q with the ROM word at P9:P8 : A : M, its net effect on the stack being SB into SC (R205,
R269). That SB takes SA on the two-level parts is derived in R269 (log entry 21). -/
def Obligations.LqidLoadsQFromRomAndCopiesSbToSc : Prop :=
  encode .lqid = [0xBF] ∧
  ∀ s : State, exec .lqid s = .next { s with
    Q := s.rom.read (256 * (s.P.toNat / 256) + 16 * s.A.toNat + s.M.toNat)
    SB := if s.part.variant.isCop410 = true then s.SA else s.SB
    SC := if s.part.variant.isCop410 = true then s.SC else s.SB }

/-- RMB n resets and SMB n sets bit n of M, bit 0 the least significant (R206, R207). -/
def Obligations.RmbAndSmbWriteOneBitOfM : Prop :=
  (∀ p ∈ ([(.rmb0, 0, 0x4C), (.rmb1, 1, 0x45), (.rmb2, 2, 0x42), (.rmb3, 3, 0x43)] :
      List (Instr × Fin 4 × Byte)),
    encode p.1 = [p.2.2] ∧
    ∀ s : State, s.ram.wf = true → ∃ t, exec p.1 s = .next t ∧
      (∀ k : Fin 4, (t.ram.read (s.storeCell s.B))[k] = (decide (k ≠ p.2.1) && s.M[k])) ∧
      (∀ c, c ≠ s.storeCell s.B → t.ram.read c = s.ram.read c) ∧ t = { s with ram := t.ram }) ∧
  (∀ p ∈ ([(.smb0, 0, 0x4D), (.smb1, 1, 0x47), (.smb2, 2, 0x46), (.smb3, 3, 0x4B)] :
      List (Instr × Fin 4 × Byte)),
    encode p.1 = [p.2.2] ∧
    ∀ s : State, s.ram.wf = true → ∃ t, exec p.1 s = .next t ∧
      (∀ k : Fin 4, (t.ram.read (s.storeCell s.B))[k] = (decide (k = p.2.1) || s.M[k])) ∧
      (∀ c, c ≠ s.storeCell s.B → t.ram.read c = s.ram.read c) ∧ t = { s with ram := t.ram })

/-- STII y stores y into M and increments Bd, never skipping (R208). -/
def Obligations.StiiStoresAndStepsBd : Prop :=
  ∀ (y : Nibble) (s : State),
    encode (.stii y) = [BitVec.ofNat 8 (0x70 + y.toNat)] ∧
    (s.ram.wf = true → ∃ t, exec (.stii y) s = .next t ∧
      t.ram.read (s.storeCell s.B) = y ∧
      (∀ c, c ≠ s.storeCell s.B → t.ram.read c = s.ram.read c) ∧
      t.br = s.br ∧ t.bd.toNat = (s.bd.toNat + 1) % 16 ∧ t = { s with B := t.B, ram := t.ram })

/-- X exchanges A with M and exclusive-ORs Br with r; XAD exchanges A with the digit r:d (R209, R210). -/
def Obligations.ExchangesSwapAWithADigit : Prop :=
  ∀ (r : BitVec 2) (d : Nibble) (s : State),
    encode (.x r) = [BitVec.ofNat 8 (0x06 + 16 * r.toNat)] ∧
    encode (.xad r d) = [0x23, BitVec.ofNat 8 (0x80 + 16 * r.toNat + d.toNat)] ∧
    (s.part.variant.isCop410 = true →
      s.part.has (.xad r d) = decide (r.toNat = 3 ∧ d.toNat = 15)) ∧
    (s.ram.wf = true →
      (∃ t, exec (.x r) s = .next t ∧ t.A = s.M ∧ t.ram.read (s.storeCell s.B) = s.A ∧
        (∀ c, c ≠ s.storeCell s.B → t.ram.read c = s.ram.read c) ∧
        t.br = s.br ^^^ r ∧ t.bd = s.bd ∧ t = { s with A := t.A, B := t.B, ram := t.ram }) ∧
      (∃ t, exec (.xad r d) s = .next t ∧ t.A = s.readDigit (r ++ d) ∧
        t.ram.read (s.storeCell (r ++ d)) = s.A ∧
        (∀ c, c ≠ s.storeCell (r ++ d) → t.ram.read c = s.ram.read c) ∧
        t = { s with A := t.A, ram := t.ram }))

/-- XDS and XIS exchange A with M, step Bd and skip when it passes its end (R211, R212). -/
def Obligations.XdsAndXisExchangeAndStepBd : Prop :=
  ∀ (r : BitVec 2) (s : State),
    encode (.xds r) = [BitVec.ofNat 8 (0x07 + 16 * r.toNat)] ∧
    encode (.xis r) = [BitVec.ofNat 8 (0x04 + 16 * r.toNat)] ∧
    (s.ram.wf = true →
      (∃ t, exec (.xds r) s = .next t ∧ t.A = s.M ∧ t.ram.read (s.storeCell s.B) = s.A ∧
        (∀ c, c ≠ s.storeCell s.B → t.ram.read c = s.ram.read c) ∧
        t.bd.toNat = (s.bd.toNat + 15) % 16 ∧ t.br = s.br ^^^ r ∧
        t.skip = (s.skip || decide (s.bd.toNat = 0)) ∧
        t = { s with A := t.A, B := t.B, ram := t.ram, skip := t.skip }) ∧
      (∃ t, exec (.xis r) s = .next t ∧ t.A = s.M ∧ t.ram.read (s.storeCell s.B) = s.A ∧
        (∀ c, c ≠ s.storeCell s.B → t.ram.read c = s.ram.read c) ∧
        t.bd.toNat = (s.bd.toNat + 1) % 16 ∧ t.br = s.br ^^^ r ∧
        t.skip = (s.skip || decide (s.bd.toNat = 15)) ∧
        t = { s with A := t.A, B := t.B, ram := t.ram, skip := t.skip }))

/-- CAB copies A to Bd, CBA copies Bd to A, XABR exchanges Br with the low bits of A (R230, R231, R234). -/
def Obligations.CabCbaAndXabrMoveBetweenAAndB : Prop :=
  encode .cab = [0x50] ∧ encode .cba = [0x4E] ∧ encode .xabr = [0x12] ∧
  ∀ s : State,
    (∃ t, exec .cab s = .next t ∧ t.bd = s.A ∧ t.br = s.br ∧ t = { s with B := t.B }) ∧
    (∃ t, exec .cba s = .next t ∧ t.A.toNat = s.B.toNat % 16 ∧ t = { s with A := t.A }) ∧
    (∃ t, exec .xabr s = .next t ∧ t.br.toNat = s.A.toNat % 4 ∧ t.bd = s.bd ∧
      t.A.toNat = s.B.toNat / 16 ∧ t = { s with A := t.A, B := t.B })

/-- LBI r,d loads B with r:d in both forms, and starts the LBI chain (R96, R97, R127, R232). That the
two-byte form loads d = 0 and 9 to 15 too is the spec's own decision D25, from general knowledge (log entry
27). -/
def Obligations.LbiLoadsB : Prop :=
  ∀ (r : BitVec 2) (d : Nibble) (s : State),
    encode (.lbi1 r d) = [BitVec.ofNat 8 (16 * r.toNat + (d.toNat + 15) % 16)] ∧
    (Instr.lbi1 r d).wf = decide (d.toNat = 0 ∨ 9 ≤ d.toNat) ∧
    encode (.lbi2 r d) = [0x33, BitVec.ofNat 8 (0x80 + 16 * r.toNat + d.toNat)] ∧
    (∃ t, exec (.lbi1 r d) s = .next t ∧ t.B.toNat = 16 * r.toNat + d.toNat ∧
      t = { s with B := t.B }) ∧
    (∃ t, exec (.lbi2 r d) s = .next t ∧ t.B.toNat = 16 * r.toNat + d.toNat ∧
      t = { s with B := t.B }) ∧
    s.beginInstr (.lbi1 r d) = { s with lbiChain := true } ∧
    s.beginInstr (.lbi2 r d) = { s with lbiChain := true }

/-- LEI y loads all four bits of EN (R104, R233). -/
def Obligations.LeiLoadsEn : Prop :=
  ∀ (y : Nibble) (s : State),
    encode (.lei y) = [0x33, BitVec.ofNat 8 (0x60 + y.toNat)] ∧
    exec (.lei y) s = .next { s with EN := y }

/-- SKC skips if C is 1 and SKE skips if A equals M (R245, R246). -/
def Obligations.SkcAndSkeSkipOnCarryAndEquality : Prop :=
  encode .skc = [0x20] ∧ encode .ske = [0x21] ∧
  ∀ s : State,
    exec .skc s = .next { s with skip := s.skip || decide (s.C = 1) } ∧
    exec .ske s = .next { s with skip := s.skip || decide (s.A = s.M) }

/-- SKGBZ n skips if pin Gn is 0 and SKGZ skips if all four G pins are 0 (R247, R248). -/
def Obligations.SkgbzAndSkgzTestTheGPins : Prop :=
  (∀ p ∈ ([(.skgbz0, 0, 0x01), (.skgbz1, 1, 0x11), (.skgbz2, 2, 0x03), (.skgbz3, 3, 0x13)] :
      List (Instr × Fin 4 × Byte)),
    encode p.1 = [0x33, p.2.2] ∧
    ∀ s : State, exec p.1 s =
      .next { s with skip := s.skip || decide (s.inputs.pinG[p.2.1] = false) }) ∧
  encode .skgz = [0x33, 0x21] ∧
  ∀ s : State, exec .skgz s =
    .next { s with skip := s.skip || decide (s.inputs.pinG.toNat = 0) }

/-- SKMBZ n skips if bit n of M is 0, bit 0 the least significant (R249). -/
def Obligations.SkmbzTestsABitOfM : Prop :=
  ∀ p ∈ ([(.skmbz0, 0, 0x01), (.skmbz1, 1, 0x11), (.skmbz2, 2, 0x03), (.skmbz3, 3, 0x13)] :
      List (Instr × Fin 4 × Byte)),
    encode p.1 = [p.2.2] ∧
    ∀ s : State, exec p.1 s =
      .next { s with skip := s.skip || decide (s.M.toNat / 2 ^ p.2.1.val % 2 = 0) }

/-- SKT skips if T is set and resets T (R250). -/
def Obligations.SktTestsAndResetsTheTimerLatch : Prop :=
  encode .skt = [0x41] ∧ (∀ p : Part, p.variant.isCop410 = true → p.has .skt = false) ∧
  ∀ s : State, exec .skt s = .next { s with skip := s.skip || s.T, T := false }
end

