-- ==== Sys2Proof/Laws/Memory.lean ====
section
/-! SUPPORT. The laws of memory: the canonical form is kept, a read after a write gives the value written,
every other address reads as before, and equal reads mean equal memories. -/

namespace Sys2Proof.Machine

variable {w : Nat}

@[simp] theorem Memory.read_nil (a : Nat) : Memory.read ([] : Memory w) a = Memory.unlisted := rfl

theorem Memory.read_entry (k : Nat) (v : BitVec w) (rest : Memory w) (a : Nat) :
    Memory.read ((k, v) :: rest) a = if k = a then v else Memory.read rest a := rfl

theorem Memory.wfFrom_entry {lo k : Nat} {v : BitVec w} {rest : Memory w} :
    Memory.wfFrom lo ((k, v) :: rest) = true ↔
      lo ≤ k ∧ v ≠ Memory.unlisted ∧ Memory.wfFrom (k + 1) rest = true := by
  simp [Memory.wfFrom, and_assoc]

/-- The canonical form from a higher address is one from a lower address. -/
theorem Memory.wfFrom_lower {lo lo' : Nat} {m : Memory w} (hle : lo' ≤ lo)
    (h : Memory.wfFrom lo m = true) : Memory.wfFrom lo' m = true := by
  cases m with
  | nil => rfl
  | cons c rest =>
    obtain ⟨h1, h2, h3⟩ := Memory.wfFrom_entry.1 h
    exact Memory.wfFrom_entry.2 ⟨hle.trans h1, h2, h3⟩

/-- An address below all entries is unlisted. -/
theorem Memory.read_below {lo a : Nat} {m : Memory w} (h : Memory.wfFrom lo m = true) (ha : a < lo) :
    Memory.read m a = Memory.unlisted := by
  induction m generalizing lo with
  | nil => rfl
  | cons c rest ih =>
    obtain ⟨h1, -, h3⟩ := Memory.wfFrom_entry.1 h
    rw [Memory.read_entry, if_neg (by omega), ih h3 (by omega)]

theorem Memory.wfFrom_cons {lo a : Nat} {v : BitVec w} {rest : Memory w} (hlo : lo ≤ a)
    (h : Memory.wfFrom (a + 1) rest = true) : Memory.wfFrom lo (Memory.cons a v rest) = true := by
  unfold Memory.cons
  split
  · exact Memory.wfFrom_lower (by omega) h
  · exact Memory.wfFrom_entry.2 ⟨hlo, ‹_›, h⟩

theorem Memory.read_cons {a : Nat} {v : BitVec w} {rest : Memory w}
    (h : Memory.wfFrom (a + 1) rest = true) (b : Nat) :
    Memory.read (Memory.cons a v rest) b = if a = b then v else Memory.read rest b := by
  unfold Memory.cons
  split
  · subst v
    split
    · subst b
      exact Memory.read_below h (by omega)
    · rfl
  · rfl

theorem Memory.wfFrom_write {lo a : Nat} {v : BitVec w} {m : Memory w} (hlo : lo ≤ a)
    (h : Memory.wfFrom lo m = true) : Memory.wfFrom lo (Memory.write m a v) = true := by
  induction m generalizing lo with
  | nil => exact Memory.wfFrom_cons hlo rfl
  | cons c rest ih =>
    obtain ⟨h1, h2, h3⟩ := Memory.wfFrom_entry.1 h
    unfold Memory.write
    split
    · exact Memory.wfFrom_cons hlo (Memory.wfFrom_entry.2 ⟨by omega, h2, h3⟩)
    · split
      · exact Memory.wfFrom_cons hlo (by subst a; exact h3)
      · exact Memory.wfFrom_entry.2 ⟨h1, h2, ih (by omega) h3⟩

/-- Every write keeps the canonical form. -/
theorem Memory.wf_write {m : Memory w} (h : m.wf = true) (a : Nat) (v : BitVec w) :
    (m.write a v).wf = true := Memory.wfFrom_write (Nat.zero_le a) h

/-- What a canonical memory reads as after a write. -/
theorem Memory.read_write {m : Memory w} {lo : Nat} (h : Memory.wfFrom lo m = true) (a : Nat)
    (v : BitVec w) (b : Nat) :
    Memory.read (Memory.write m a v) b = if a = b then v else Memory.read m b := by
  induction m generalizing lo with
  | nil => exact Memory.read_cons rfl b
  | cons c rest ih =>
    obtain ⟨k, x⟩ := c
    obtain ⟨h1, h2, h3⟩ := Memory.wfFrom_entry.1 h
    unfold Memory.write
    split
    · rw [Memory.read_cons (Memory.wfFrom_entry.2 ⟨by omega, h2, h3⟩)]
    · split
      · subst a
        rw [Memory.read_cons h3, Memory.read_entry]
        split <;> rfl
      · rw [Memory.read_entry, Memory.read_entry, ih h3]
        split
        · rw [if_neg (by omega)]
        · rfl

/-- A read after a write to the same place gives the value written. -/
theorem Memory.read_write_same {m : Memory w} (h : m.wf = true) (a : Nat) (v : BitVec w) :
    (m.write a v).read a = v := by rw [Memory.read_write h, if_pos rfl]

/-- A write leaves every other place alone. -/
theorem Memory.read_write_other {m : Memory w} (h : m.wf = true) {a b : Nat} (v : BitVec w)
    (hne : b ≠ a) : (m.write a v).read b = m.read b := by
  rw [Memory.read_write h, if_neg (Ne.symm hne)]

theorem Memory.within_write {m : Memory w} {p : Nat → Bool} (h : m.within p = true) {a : Nat}
    (ha : p a = true) (v : BitVec w) : (m.write a v).within p = true := by
  have cons_ok : ∀ rest : Memory w, rest.within p = true → (Memory.cons a v rest).within p = true := by
    intro rest hr
    unfold Memory.cons
    split
    · exact hr
    · simpa [Memory.within, ha] using hr
  induction m with
  | nil => exact cons_ok [] rfl
  | cons c rest ih =>
    have hc : p c.1 = true ∧ Memory.within rest p = true := by simpa [Memory.within] using h
    unfold Memory.write
    split
    · exact cons_ok _ h
    · split
      · exact cons_ok _ hc.2
      · exact Bool.and_eq_true_iff.2 ⟨hc.1, ih hc.2⟩

theorem Memory.wfFrom_ext {lo : Nat} {m n : Memory w} (hm : Memory.wfFrom lo m = true)
    (hn : Memory.wfFrom lo n = true) (h : ∀ a, Memory.read m a = Memory.read n a) : m = n := by
  induction m generalizing lo n with
  | nil =>
    cases n with
    | nil => rfl
    | cons c rest =>
      obtain ⟨-, h2, -⟩ := Memory.wfFrom_entry.1 hn
      have := h c.1
      rw [Memory.read_entry, if_pos rfl] at this
      exact absurd this.symm h2
  | cons c rest ih =>
    obtain ⟨k, x⟩ := c
    obtain ⟨h1, h2, h3⟩ := Memory.wfFrom_entry.1 hm
    cases n with
    | nil =>
      have := h k
      rw [Memory.read_entry, if_pos rfl] at this
      exact absurd this h2
    | cons c' rest' =>
      obtain ⟨k', x'⟩ := c'
      obtain ⟨h1', h2', h3'⟩ := Memory.wfFrom_entry.1 hn
      have key : k = k' := by
        by_contra hne
        rcases Nat.lt_or_gt_of_ne hne with hlt | hgt
        · have := h k
          rw [Memory.read_entry, if_pos rfl, Memory.read_entry, if_neg (by omega),
            Memory.read_below h3' (by omega)] at this
          exact h2 this
        · have := h k'
          rw [Memory.read_entry, if_neg (by omega), Memory.read_below h3 (by omega),
            Memory.read_entry, if_pos rfl] at this
          exact h2' this.symm
      subst k'
      have hx : x = x' := by
        have := h k
        rwa [Memory.read_entry, if_pos rfl, Memory.read_entry, if_pos rfl] at this
      subst x'
      refine congrArg _ (ih h3 h3' fun a => ?_)
      by_cases hk : k = a
      · subst a
        rw [Memory.read_below h3 (by omega), Memory.read_below h3' (by omega)]
      · have := h a
        rwa [Memory.read_entry, if_neg hk, Memory.read_entry, if_neg hk] at this

/-- Equal memories are equal data. -/
theorem Memory.wf_ext {m n : Memory w} (hm : m.wf = true) (hn : n.wf = true)
    (h : ∀ a, m.read a = n.read a) : m = n := Memory.wfFrom_ext hm hn h

end Sys2Proof.Machine
end

