-- ==== Sys2Proof/Laws/State.lean ====
section
/-! SUPPORT. One lemma per field per plain update of the state. -/

namespace Sys2Proof.Machine

section
variable (s : State) (v : Nibble)
@[simp] theorem State.setA_A : (s.setA v).A = v := rfl
@[simp] theorem State.setA_B : (s.setA v).B = s.B := rfl
@[simp] theorem State.setA_C : (s.setA v).C = s.C := rfl
@[simp] theorem State.setA_P : (s.setA v).P = s.P := rfl
@[simp] theorem State.setA_SA : (s.setA v).SA = s.SA := rfl
@[simp] theorem State.setA_SB : (s.setA v).SB = s.SB := rfl
@[simp] theorem State.setA_SC : (s.setA v).SC = s.SC := rfl
@[simp] theorem State.setA_Q : (s.setA v).Q = s.Q := rfl
@[simp] theorem State.setA_EN : (s.setA v).EN = s.EN := rfl
@[simp] theorem State.setA_G : (s.setA v).G = s.G := rfl
@[simp] theorem State.setA_D : (s.setA v).D = s.D := rfl
@[simp] theorem State.setA_SIO : (s.setA v).SIO = s.SIO := rfl
@[simp] theorem State.setA_SKL : (s.setA v).SKL = s.SKL := rfl
@[simp] theorem State.setA_IL3 : (s.setA v).IL3 = s.IL3 := rfl
@[simp] theorem State.setA_IL0 : (s.setA v).IL0 = s.IL0 := rfl
@[simp] theorem State.setA_TC : (s.setA v).TC = s.TC := rfl
@[simp] theorem State.setA_T : (s.setA v).T = s.T := rfl
@[simp] theorem State.setA_skip : (s.setA v).skip = s.skip := rfl
@[simp] theorem State.setA_lbiChain : (s.setA v).lbiChain = s.lbiChain := rfl
@[simp] theorem State.setA_skipSaved : (s.setA v).skipSaved = s.skipSaved := rfl
@[simp] theorem State.setA_irq : (s.setA v).irq = s.irq := rfl
@[simp] theorem State.setA_ram : (s.setA v).ram = s.ram := rfl
@[simp] theorem State.setA_rom : (s.setA v).rom = s.rom := rfl
@[simp] theorem State.setA_part : (s.setA v).part = s.part := rfl
@[simp] theorem State.setA_script : (s.setA v).script = s.script := rfl
@[simp] theorem State.setA_free : (s.setA v).free = s.free := rfl
end

section
variable (s : State) (v : RamAddr)
@[simp] theorem State.setB_A : (s.setB v).A = s.A := rfl
@[simp] theorem State.setB_B : (s.setB v).B = v := rfl
@[simp] theorem State.setB_C : (s.setB v).C = s.C := rfl
@[simp] theorem State.setB_P : (s.setB v).P = s.P := rfl
@[simp] theorem State.setB_SA : (s.setB v).SA = s.SA := rfl
@[simp] theorem State.setB_SB : (s.setB v).SB = s.SB := rfl
@[simp] theorem State.setB_SC : (s.setB v).SC = s.SC := rfl
@[simp] theorem State.setB_Q : (s.setB v).Q = s.Q := rfl
@[simp] theorem State.setB_EN : (s.setB v).EN = s.EN := rfl
@[simp] theorem State.setB_G : (s.setB v).G = s.G := rfl
@[simp] theorem State.setB_D : (s.setB v).D = s.D := rfl
@[simp] theorem State.setB_SIO : (s.setB v).SIO = s.SIO := rfl
@[simp] theorem State.setB_SKL : (s.setB v).SKL = s.SKL := rfl
@[simp] theorem State.setB_IL3 : (s.setB v).IL3 = s.IL3 := rfl
@[simp] theorem State.setB_IL0 : (s.setB v).IL0 = s.IL0 := rfl
@[simp] theorem State.setB_TC : (s.setB v).TC = s.TC := rfl
@[simp] theorem State.setB_T : (s.setB v).T = s.T := rfl
@[simp] theorem State.setB_skip : (s.setB v).skip = s.skip := rfl
@[simp] theorem State.setB_lbiChain : (s.setB v).lbiChain = s.lbiChain := rfl
@[simp] theorem State.setB_skipSaved : (s.setB v).skipSaved = s.skipSaved := rfl
@[simp] theorem State.setB_irq : (s.setB v).irq = s.irq := rfl
@[simp] theorem State.setB_ram : (s.setB v).ram = s.ram := rfl
@[simp] theorem State.setB_rom : (s.setB v).rom = s.rom := rfl
@[simp] theorem State.setB_part : (s.setB v).part = s.part := rfl
@[simp] theorem State.setB_script : (s.setB v).script = s.script := rfl
@[simp] theorem State.setB_free : (s.setB v).free = s.free := rfl
end

section
variable (s : State) (v : Bit)
@[simp] theorem State.setC_A : (s.setC v).A = s.A := rfl
@[simp] theorem State.setC_B : (s.setC v).B = s.B := rfl
@[simp] theorem State.setC_C : (s.setC v).C = v := rfl
@[simp] theorem State.setC_P : (s.setC v).P = s.P := rfl
@[simp] theorem State.setC_SA : (s.setC v).SA = s.SA := rfl
@[simp] theorem State.setC_SB : (s.setC v).SB = s.SB := rfl
@[simp] theorem State.setC_SC : (s.setC v).SC = s.SC := rfl
@[simp] theorem State.setC_Q : (s.setC v).Q = s.Q := rfl
@[simp] theorem State.setC_EN : (s.setC v).EN = s.EN := rfl
@[simp] theorem State.setC_G : (s.setC v).G = s.G := rfl
@[simp] theorem State.setC_D : (s.setC v).D = s.D := rfl
@[simp] theorem State.setC_SIO : (s.setC v).SIO = s.SIO := rfl
@[simp] theorem State.setC_SKL : (s.setC v).SKL = s.SKL := rfl
@[simp] theorem State.setC_IL3 : (s.setC v).IL3 = s.IL3 := rfl
@[simp] theorem State.setC_IL0 : (s.setC v).IL0 = s.IL0 := rfl
@[simp] theorem State.setC_TC : (s.setC v).TC = s.TC := rfl
@[simp] theorem State.setC_T : (s.setC v).T = s.T := rfl
@[simp] theorem State.setC_skip : (s.setC v).skip = s.skip := rfl
@[simp] theorem State.setC_lbiChain : (s.setC v).lbiChain = s.lbiChain := rfl
@[simp] theorem State.setC_skipSaved : (s.setC v).skipSaved = s.skipSaved := rfl
@[simp] theorem State.setC_irq : (s.setC v).irq = s.irq := rfl
@[simp] theorem State.setC_ram : (s.setC v).ram = s.ram := rfl
@[simp] theorem State.setC_rom : (s.setC v).rom = s.rom := rfl
@[simp] theorem State.setC_part : (s.setC v).part = s.part := rfl
@[simp] theorem State.setC_script : (s.setC v).script = s.script := rfl
@[simp] theorem State.setC_free : (s.setC v).free = s.free := rfl
end

section
variable (s : State) (v : RomAddr)
@[simp] theorem State.setP_A : (s.setP v).A = s.A := rfl
@[simp] theorem State.setP_B : (s.setP v).B = s.B := rfl
@[simp] theorem State.setP_C : (s.setP v).C = s.C := rfl
@[simp] theorem State.setP_P : (s.setP v).P = v := rfl
@[simp] theorem State.setP_SA : (s.setP v).SA = s.SA := rfl
@[simp] theorem State.setP_SB : (s.setP v).SB = s.SB := rfl
@[simp] theorem State.setP_SC : (s.setP v).SC = s.SC := rfl
@[simp] theorem State.setP_Q : (s.setP v).Q = s.Q := rfl
@[simp] theorem State.setP_EN : (s.setP v).EN = s.EN := rfl
@[simp] theorem State.setP_G : (s.setP v).G = s.G := rfl
@[simp] theorem State.setP_D : (s.setP v).D = s.D := rfl
@[simp] theorem State.setP_SIO : (s.setP v).SIO = s.SIO := rfl
@[simp] theorem State.setP_SKL : (s.setP v).SKL = s.SKL := rfl
@[simp] theorem State.setP_IL3 : (s.setP v).IL3 = s.IL3 := rfl
@[simp] theorem State.setP_IL0 : (s.setP v).IL0 = s.IL0 := rfl
@[simp] theorem State.setP_TC : (s.setP v).TC = s.TC := rfl
@[simp] theorem State.setP_T : (s.setP v).T = s.T := rfl
@[simp] theorem State.setP_skip : (s.setP v).skip = s.skip := rfl
@[simp] theorem State.setP_lbiChain : (s.setP v).lbiChain = s.lbiChain := rfl
@[simp] theorem State.setP_skipSaved : (s.setP v).skipSaved = s.skipSaved := rfl
@[simp] theorem State.setP_irq : (s.setP v).irq = s.irq := rfl
@[simp] theorem State.setP_ram : (s.setP v).ram = s.ram := rfl
@[simp] theorem State.setP_rom : (s.setP v).rom = s.rom := rfl
@[simp] theorem State.setP_part : (s.setP v).part = s.part := rfl
@[simp] theorem State.setP_script : (s.setP v).script = s.script := rfl
@[simp] theorem State.setP_free : (s.setP v).free = s.free := rfl
end

section
variable (s : State) (v : RomAddr)
@[simp] theorem State.setSA_A : (s.setSA v).A = s.A := rfl
@[simp] theorem State.setSA_B : (s.setSA v).B = s.B := rfl
@[simp] theorem State.setSA_C : (s.setSA v).C = s.C := rfl
@[simp] theorem State.setSA_P : (s.setSA v).P = s.P := rfl
@[simp] theorem State.setSA_SA : (s.setSA v).SA = v := rfl
@[simp] theorem State.setSA_SB : (s.setSA v).SB = s.SB := rfl
@[simp] theorem State.setSA_SC : (s.setSA v).SC = s.SC := rfl
@[simp] theorem State.setSA_Q : (s.setSA v).Q = s.Q := rfl
@[simp] theorem State.setSA_EN : (s.setSA v).EN = s.EN := rfl
@[simp] theorem State.setSA_G : (s.setSA v).G = s.G := rfl
@[simp] theorem State.setSA_D : (s.setSA v).D = s.D := rfl
@[simp] theorem State.setSA_SIO : (s.setSA v).SIO = s.SIO := rfl
@[simp] theorem State.setSA_SKL : (s.setSA v).SKL = s.SKL := rfl
@[simp] theorem State.setSA_IL3 : (s.setSA v).IL3 = s.IL3 := rfl
@[simp] theorem State.setSA_IL0 : (s.setSA v).IL0 = s.IL0 := rfl
@[simp] theorem State.setSA_TC : (s.setSA v).TC = s.TC := rfl
@[simp] theorem State.setSA_T : (s.setSA v).T = s.T := rfl
@[simp] theorem State.setSA_skip : (s.setSA v).skip = s.skip := rfl
@[simp] theorem State.setSA_lbiChain : (s.setSA v).lbiChain = s.lbiChain := rfl
@[simp] theorem State.setSA_skipSaved : (s.setSA v).skipSaved = s.skipSaved := rfl
@[simp] theorem State.setSA_irq : (s.setSA v).irq = s.irq := rfl
@[simp] theorem State.setSA_ram : (s.setSA v).ram = s.ram := rfl
@[simp] theorem State.setSA_rom : (s.setSA v).rom = s.rom := rfl
@[simp] theorem State.setSA_part : (s.setSA v).part = s.part := rfl
@[simp] theorem State.setSA_script : (s.setSA v).script = s.script := rfl
@[simp] theorem State.setSA_free : (s.setSA v).free = s.free := rfl
end

section
variable (s : State) (v : RomAddr)
@[simp] theorem State.setSB_A : (s.setSB v).A = s.A := rfl
@[simp] theorem State.setSB_B : (s.setSB v).B = s.B := rfl
@[simp] theorem State.setSB_C : (s.setSB v).C = s.C := rfl
@[simp] theorem State.setSB_P : (s.setSB v).P = s.P := rfl
@[simp] theorem State.setSB_SA : (s.setSB v).SA = s.SA := rfl
@[simp] theorem State.setSB_SB : (s.setSB v).SB = v := rfl
@[simp] theorem State.setSB_SC : (s.setSB v).SC = s.SC := rfl
@[simp] theorem State.setSB_Q : (s.setSB v).Q = s.Q := rfl
@[simp] theorem State.setSB_EN : (s.setSB v).EN = s.EN := rfl
@[simp] theorem State.setSB_G : (s.setSB v).G = s.G := rfl
@[simp] theorem State.setSB_D : (s.setSB v).D = s.D := rfl
@[simp] theorem State.setSB_SIO : (s.setSB v).SIO = s.SIO := rfl
@[simp] theorem State.setSB_SKL : (s.setSB v).SKL = s.SKL := rfl
@[simp] theorem State.setSB_IL3 : (s.setSB v).IL3 = s.IL3 := rfl
@[simp] theorem State.setSB_IL0 : (s.setSB v).IL0 = s.IL0 := rfl
@[simp] theorem State.setSB_TC : (s.setSB v).TC = s.TC := rfl
@[simp] theorem State.setSB_T : (s.setSB v).T = s.T := rfl
@[simp] theorem State.setSB_skip : (s.setSB v).skip = s.skip := rfl
@[simp] theorem State.setSB_lbiChain : (s.setSB v).lbiChain = s.lbiChain := rfl
@[simp] theorem State.setSB_skipSaved : (s.setSB v).skipSaved = s.skipSaved := rfl
@[simp] theorem State.setSB_irq : (s.setSB v).irq = s.irq := rfl
@[simp] theorem State.setSB_ram : (s.setSB v).ram = s.ram := rfl
@[simp] theorem State.setSB_rom : (s.setSB v).rom = s.rom := rfl
@[simp] theorem State.setSB_part : (s.setSB v).part = s.part := rfl
@[simp] theorem State.setSB_script : (s.setSB v).script = s.script := rfl
@[simp] theorem State.setSB_free : (s.setSB v).free = s.free := rfl
end

section
variable (s : State) (v : RomAddr)
@[simp] theorem State.setSC_A : (s.setSC v).A = s.A := rfl
@[simp] theorem State.setSC_B : (s.setSC v).B = s.B := rfl
@[simp] theorem State.setSC_C : (s.setSC v).C = s.C := rfl
@[simp] theorem State.setSC_P : (s.setSC v).P = s.P := rfl
@[simp] theorem State.setSC_SA : (s.setSC v).SA = s.SA := rfl
@[simp] theorem State.setSC_SB : (s.setSC v).SB = s.SB := rfl
@[simp] theorem State.setSC_SC : (s.setSC v).SC = v := rfl
@[simp] theorem State.setSC_Q : (s.setSC v).Q = s.Q := rfl
@[simp] theorem State.setSC_EN : (s.setSC v).EN = s.EN := rfl
@[simp] theorem State.setSC_G : (s.setSC v).G = s.G := rfl
@[simp] theorem State.setSC_D : (s.setSC v).D = s.D := rfl
@[simp] theorem State.setSC_SIO : (s.setSC v).SIO = s.SIO := rfl
@[simp] theorem State.setSC_SKL : (s.setSC v).SKL = s.SKL := rfl
@[simp] theorem State.setSC_IL3 : (s.setSC v).IL3 = s.IL3 := rfl
@[simp] theorem State.setSC_IL0 : (s.setSC v).IL0 = s.IL0 := rfl
@[simp] theorem State.setSC_TC : (s.setSC v).TC = s.TC := rfl
@[simp] theorem State.setSC_T : (s.setSC v).T = s.T := rfl
@[simp] theorem State.setSC_skip : (s.setSC v).skip = s.skip := rfl
@[simp] theorem State.setSC_lbiChain : (s.setSC v).lbiChain = s.lbiChain := rfl
@[simp] theorem State.setSC_skipSaved : (s.setSC v).skipSaved = s.skipSaved := rfl
@[simp] theorem State.setSC_irq : (s.setSC v).irq = s.irq := rfl
@[simp] theorem State.setSC_ram : (s.setSC v).ram = s.ram := rfl
@[simp] theorem State.setSC_rom : (s.setSC v).rom = s.rom := rfl
@[simp] theorem State.setSC_part : (s.setSC v).part = s.part := rfl
@[simp] theorem State.setSC_script : (s.setSC v).script = s.script := rfl
@[simp] theorem State.setSC_free : (s.setSC v).free = s.free := rfl
end

section
variable (s : State) (v : Byte)
@[simp] theorem State.setQ_A : (s.setQ v).A = s.A := rfl
@[simp] theorem State.setQ_B : (s.setQ v).B = s.B := rfl
@[simp] theorem State.setQ_C : (s.setQ v).C = s.C := rfl
@[simp] theorem State.setQ_P : (s.setQ v).P = s.P := rfl
@[simp] theorem State.setQ_SA : (s.setQ v).SA = s.SA := rfl
@[simp] theorem State.setQ_SB : (s.setQ v).SB = s.SB := rfl
@[simp] theorem State.setQ_SC : (s.setQ v).SC = s.SC := rfl
@[simp] theorem State.setQ_Q : (s.setQ v).Q = v := rfl
@[simp] theorem State.setQ_EN : (s.setQ v).EN = s.EN := rfl
@[simp] theorem State.setQ_G : (s.setQ v).G = s.G := rfl
@[simp] theorem State.setQ_D : (s.setQ v).D = s.D := rfl
@[simp] theorem State.setQ_SIO : (s.setQ v).SIO = s.SIO := rfl
@[simp] theorem State.setQ_SKL : (s.setQ v).SKL = s.SKL := rfl
@[simp] theorem State.setQ_IL3 : (s.setQ v).IL3 = s.IL3 := rfl
@[simp] theorem State.setQ_IL0 : (s.setQ v).IL0 = s.IL0 := rfl
@[simp] theorem State.setQ_TC : (s.setQ v).TC = s.TC := rfl
@[simp] theorem State.setQ_T : (s.setQ v).T = s.T := rfl
@[simp] theorem State.setQ_skip : (s.setQ v).skip = s.skip := rfl
@[simp] theorem State.setQ_lbiChain : (s.setQ v).lbiChain = s.lbiChain := rfl
@[simp] theorem State.setQ_skipSaved : (s.setQ v).skipSaved = s.skipSaved := rfl
@[simp] theorem State.setQ_irq : (s.setQ v).irq = s.irq := rfl
@[simp] theorem State.setQ_ram : (s.setQ v).ram = s.ram := rfl
@[simp] theorem State.setQ_rom : (s.setQ v).rom = s.rom := rfl
@[simp] theorem State.setQ_part : (s.setQ v).part = s.part := rfl
@[simp] theorem State.setQ_script : (s.setQ v).script = s.script := rfl
@[simp] theorem State.setQ_free : (s.setQ v).free = s.free := rfl
end

section
variable (s : State) (v : Nibble)
@[simp] theorem State.setEN_A : (s.setEN v).A = s.A := rfl
@[simp] theorem State.setEN_B : (s.setEN v).B = s.B := rfl
@[simp] theorem State.setEN_C : (s.setEN v).C = s.C := rfl
@[simp] theorem State.setEN_P : (s.setEN v).P = s.P := rfl
@[simp] theorem State.setEN_SA : (s.setEN v).SA = s.SA := rfl
@[simp] theorem State.setEN_SB : (s.setEN v).SB = s.SB := rfl
@[simp] theorem State.setEN_SC : (s.setEN v).SC = s.SC := rfl
@[simp] theorem State.setEN_Q : (s.setEN v).Q = s.Q := rfl
@[simp] theorem State.setEN_EN : (s.setEN v).EN = v := rfl
@[simp] theorem State.setEN_G : (s.setEN v).G = s.G := rfl
@[simp] theorem State.setEN_D : (s.setEN v).D = s.D := rfl
@[simp] theorem State.setEN_SIO : (s.setEN v).SIO = s.SIO := rfl
@[simp] theorem State.setEN_SKL : (s.setEN v).SKL = s.SKL := rfl
@[simp] theorem State.setEN_IL3 : (s.setEN v).IL3 = s.IL3 := rfl
@[simp] theorem State.setEN_IL0 : (s.setEN v).IL0 = s.IL0 := rfl
@[simp] theorem State.setEN_TC : (s.setEN v).TC = s.TC := rfl
@[simp] theorem State.setEN_T : (s.setEN v).T = s.T := rfl
@[simp] theorem State.setEN_skip : (s.setEN v).skip = s.skip := rfl
@[simp] theorem State.setEN_lbiChain : (s.setEN v).lbiChain = s.lbiChain := rfl
@[simp] theorem State.setEN_skipSaved : (s.setEN v).skipSaved = s.skipSaved := rfl
@[simp] theorem State.setEN_irq : (s.setEN v).irq = s.irq := rfl
@[simp] theorem State.setEN_ram : (s.setEN v).ram = s.ram := rfl
@[simp] theorem State.setEN_rom : (s.setEN v).rom = s.rom := rfl
@[simp] theorem State.setEN_part : (s.setEN v).part = s.part := rfl
@[simp] theorem State.setEN_script : (s.setEN v).script = s.script := rfl
@[simp] theorem State.setEN_free : (s.setEN v).free = s.free := rfl
end

section
variable (s : State) (v : Nibble)
@[simp] theorem State.setG_A : (s.setG v).A = s.A := rfl
@[simp] theorem State.setG_B : (s.setG v).B = s.B := rfl
@[simp] theorem State.setG_C : (s.setG v).C = s.C := rfl
@[simp] theorem State.setG_P : (s.setG v).P = s.P := rfl
@[simp] theorem State.setG_SA : (s.setG v).SA = s.SA := rfl
@[simp] theorem State.setG_SB : (s.setG v).SB = s.SB := rfl
@[simp] theorem State.setG_SC : (s.setG v).SC = s.SC := rfl
@[simp] theorem State.setG_Q : (s.setG v).Q = s.Q := rfl
@[simp] theorem State.setG_EN : (s.setG v).EN = s.EN := rfl
@[simp] theorem State.setG_G : (s.setG v).G = v := rfl
@[simp] theorem State.setG_D : (s.setG v).D = s.D := rfl
@[simp] theorem State.setG_SIO : (s.setG v).SIO = s.SIO := rfl
@[simp] theorem State.setG_SKL : (s.setG v).SKL = s.SKL := rfl
@[simp] theorem State.setG_IL3 : (s.setG v).IL3 = s.IL3 := rfl
@[simp] theorem State.setG_IL0 : (s.setG v).IL0 = s.IL0 := rfl
@[simp] theorem State.setG_TC : (s.setG v).TC = s.TC := rfl
@[simp] theorem State.setG_T : (s.setG v).T = s.T := rfl
@[simp] theorem State.setG_skip : (s.setG v).skip = s.skip := rfl
@[simp] theorem State.setG_lbiChain : (s.setG v).lbiChain = s.lbiChain := rfl
@[simp] theorem State.setG_skipSaved : (s.setG v).skipSaved = s.skipSaved := rfl
@[simp] theorem State.setG_irq : (s.setG v).irq = s.irq := rfl
@[simp] theorem State.setG_ram : (s.setG v).ram = s.ram := rfl
@[simp] theorem State.setG_rom : (s.setG v).rom = s.rom := rfl
@[simp] theorem State.setG_part : (s.setG v).part = s.part := rfl
@[simp] theorem State.setG_script : (s.setG v).script = s.script := rfl
@[simp] theorem State.setG_free : (s.setG v).free = s.free := rfl
end

section
variable (s : State) (v : Nibble)
@[simp] theorem State.setD_A : (s.setD v).A = s.A := rfl
@[simp] theorem State.setD_B : (s.setD v).B = s.B := rfl
@[simp] theorem State.setD_C : (s.setD v).C = s.C := rfl
@[simp] theorem State.setD_P : (s.setD v).P = s.P := rfl
@[simp] theorem State.setD_SA : (s.setD v).SA = s.SA := rfl
@[simp] theorem State.setD_SB : (s.setD v).SB = s.SB := rfl
@[simp] theorem State.setD_SC : (s.setD v).SC = s.SC := rfl
@[simp] theorem State.setD_Q : (s.setD v).Q = s.Q := rfl
@[simp] theorem State.setD_EN : (s.setD v).EN = s.EN := rfl
@[simp] theorem State.setD_G : (s.setD v).G = s.G := rfl
@[simp] theorem State.setD_D : (s.setD v).D = v := rfl
@[simp] theorem State.setD_SIO : (s.setD v).SIO = s.SIO := rfl
@[simp] theorem State.setD_SKL : (s.setD v).SKL = s.SKL := rfl
@[simp] theorem State.setD_IL3 : (s.setD v).IL3 = s.IL3 := rfl
@[simp] theorem State.setD_IL0 : (s.setD v).IL0 = s.IL0 := rfl
@[simp] theorem State.setD_TC : (s.setD v).TC = s.TC := rfl
@[simp] theorem State.setD_T : (s.setD v).T = s.T := rfl
@[simp] theorem State.setD_skip : (s.setD v).skip = s.skip := rfl
@[simp] theorem State.setD_lbiChain : (s.setD v).lbiChain = s.lbiChain := rfl
@[simp] theorem State.setD_skipSaved : (s.setD v).skipSaved = s.skipSaved := rfl
@[simp] theorem State.setD_irq : (s.setD v).irq = s.irq := rfl
@[simp] theorem State.setD_ram : (s.setD v).ram = s.ram := rfl
@[simp] theorem State.setD_rom : (s.setD v).rom = s.rom := rfl
@[simp] theorem State.setD_part : (s.setD v).part = s.part := rfl
@[simp] theorem State.setD_script : (s.setD v).script = s.script := rfl
@[simp] theorem State.setD_free : (s.setD v).free = s.free := rfl
end

section
variable (s : State) (v : Nibble)
@[simp] theorem State.setSIO_A : (s.setSIO v).A = s.A := rfl
@[simp] theorem State.setSIO_B : (s.setSIO v).B = s.B := rfl
@[simp] theorem State.setSIO_C : (s.setSIO v).C = s.C := rfl
@[simp] theorem State.setSIO_P : (s.setSIO v).P = s.P := rfl
@[simp] theorem State.setSIO_SA : (s.setSIO v).SA = s.SA := rfl
@[simp] theorem State.setSIO_SB : (s.setSIO v).SB = s.SB := rfl
@[simp] theorem State.setSIO_SC : (s.setSIO v).SC = s.SC := rfl
@[simp] theorem State.setSIO_Q : (s.setSIO v).Q = s.Q := rfl
@[simp] theorem State.setSIO_EN : (s.setSIO v).EN = s.EN := rfl
@[simp] theorem State.setSIO_G : (s.setSIO v).G = s.G := rfl
@[simp] theorem State.setSIO_D : (s.setSIO v).D = s.D := rfl
@[simp] theorem State.setSIO_SIO : (s.setSIO v).SIO = v := rfl
@[simp] theorem State.setSIO_SKL : (s.setSIO v).SKL = s.SKL := rfl
@[simp] theorem State.setSIO_IL3 : (s.setSIO v).IL3 = s.IL3 := rfl
@[simp] theorem State.setSIO_IL0 : (s.setSIO v).IL0 = s.IL0 := rfl
@[simp] theorem State.setSIO_TC : (s.setSIO v).TC = s.TC := rfl
@[simp] theorem State.setSIO_T : (s.setSIO v).T = s.T := rfl
@[simp] theorem State.setSIO_skip : (s.setSIO v).skip = s.skip := rfl
@[simp] theorem State.setSIO_lbiChain : (s.setSIO v).lbiChain = s.lbiChain := rfl
@[simp] theorem State.setSIO_skipSaved : (s.setSIO v).skipSaved = s.skipSaved := rfl
@[simp] theorem State.setSIO_irq : (s.setSIO v).irq = s.irq := rfl
@[simp] theorem State.setSIO_ram : (s.setSIO v).ram = s.ram := rfl
@[simp] theorem State.setSIO_rom : (s.setSIO v).rom = s.rom := rfl
@[simp] theorem State.setSIO_part : (s.setSIO v).part = s.part := rfl
@[simp] theorem State.setSIO_script : (s.setSIO v).script = s.script := rfl
@[simp] theorem State.setSIO_free : (s.setSIO v).free = s.free := rfl
end

section
variable (s : State) (v : Bit)
@[simp] theorem State.setSKL_A : (s.setSKL v).A = s.A := rfl
@[simp] theorem State.setSKL_B : (s.setSKL v).B = s.B := rfl
@[simp] theorem State.setSKL_C : (s.setSKL v).C = s.C := rfl
@[simp] theorem State.setSKL_P : (s.setSKL v).P = s.P := rfl
@[simp] theorem State.setSKL_SA : (s.setSKL v).SA = s.SA := rfl
@[simp] theorem State.setSKL_SB : (s.setSKL v).SB = s.SB := rfl
@[simp] theorem State.setSKL_SC : (s.setSKL v).SC = s.SC := rfl
@[simp] theorem State.setSKL_Q : (s.setSKL v).Q = s.Q := rfl
@[simp] theorem State.setSKL_EN : (s.setSKL v).EN = s.EN := rfl
@[simp] theorem State.setSKL_G : (s.setSKL v).G = s.G := rfl
@[simp] theorem State.setSKL_D : (s.setSKL v).D = s.D := rfl
@[simp] theorem State.setSKL_SIO : (s.setSKL v).SIO = s.SIO := rfl
@[simp] theorem State.setSKL_SKL : (s.setSKL v).SKL = v := rfl
@[simp] theorem State.setSKL_IL3 : (s.setSKL v).IL3 = s.IL3 := rfl
@[simp] theorem State.setSKL_IL0 : (s.setSKL v).IL0 = s.IL0 := rfl
@[simp] theorem State.setSKL_TC : (s.setSKL v).TC = s.TC := rfl
@[simp] theorem State.setSKL_T : (s.setSKL v).T = s.T := rfl
@[simp] theorem State.setSKL_skip : (s.setSKL v).skip = s.skip := rfl
@[simp] theorem State.setSKL_lbiChain : (s.setSKL v).lbiChain = s.lbiChain := rfl
@[simp] theorem State.setSKL_skipSaved : (s.setSKL v).skipSaved = s.skipSaved := rfl
@[simp] theorem State.setSKL_irq : (s.setSKL v).irq = s.irq := rfl
@[simp] theorem State.setSKL_ram : (s.setSKL v).ram = s.ram := rfl
@[simp] theorem State.setSKL_rom : (s.setSKL v).rom = s.rom := rfl
@[simp] theorem State.setSKL_part : (s.setSKL v).part = s.part := rfl
@[simp] theorem State.setSKL_script : (s.setSKL v).script = s.script := rfl
@[simp] theorem State.setSKL_free : (s.setSKL v).free = s.free := rfl
end

section
variable (s : State) (v : Bit)
@[simp] theorem State.setIL3_A : (s.setIL3 v).A = s.A := rfl
@[simp] theorem State.setIL3_B : (s.setIL3 v).B = s.B := rfl
@[simp] theorem State.setIL3_C : (s.setIL3 v).C = s.C := rfl
@[simp] theorem State.setIL3_P : (s.setIL3 v).P = s.P := rfl
@[simp] theorem State.setIL3_SA : (s.setIL3 v).SA = s.SA := rfl
@[simp] theorem State.setIL3_SB : (s.setIL3 v).SB = s.SB := rfl
@[simp] theorem State.setIL3_SC : (s.setIL3 v).SC = s.SC := rfl
@[simp] theorem State.setIL3_Q : (s.setIL3 v).Q = s.Q := rfl
@[simp] theorem State.setIL3_EN : (s.setIL3 v).EN = s.EN := rfl
@[simp] theorem State.setIL3_G : (s.setIL3 v).G = s.G := rfl
@[simp] theorem State.setIL3_D : (s.setIL3 v).D = s.D := rfl
@[simp] theorem State.setIL3_SIO : (s.setIL3 v).SIO = s.SIO := rfl
@[simp] theorem State.setIL3_SKL : (s.setIL3 v).SKL = s.SKL := rfl
@[simp] theorem State.setIL3_IL3 : (s.setIL3 v).IL3 = v := rfl
@[simp] theorem State.setIL3_IL0 : (s.setIL3 v).IL0 = s.IL0 := rfl
@[simp] theorem State.setIL3_TC : (s.setIL3 v).TC = s.TC := rfl
@[simp] theorem State.setIL3_T : (s.setIL3 v).T = s.T := rfl
@[simp] theorem State.setIL3_skip : (s.setIL3 v).skip = s.skip := rfl
@[simp] theorem State.setIL3_lbiChain : (s.setIL3 v).lbiChain = s.lbiChain := rfl
@[simp] theorem State.setIL3_skipSaved : (s.setIL3 v).skipSaved = s.skipSaved := rfl
@[simp] theorem State.setIL3_irq : (s.setIL3 v).irq = s.irq := rfl
@[simp] theorem State.setIL3_ram : (s.setIL3 v).ram = s.ram := rfl
@[simp] theorem State.setIL3_rom : (s.setIL3 v).rom = s.rom := rfl
@[simp] theorem State.setIL3_part : (s.setIL3 v).part = s.part := rfl
@[simp] theorem State.setIL3_script : (s.setIL3 v).script = s.script := rfl
@[simp] theorem State.setIL3_free : (s.setIL3 v).free = s.free := rfl
end

section
variable (s : State) (v : Bit)
@[simp] theorem State.setIL0_A : (s.setIL0 v).A = s.A := rfl
@[simp] theorem State.setIL0_B : (s.setIL0 v).B = s.B := rfl
@[simp] theorem State.setIL0_C : (s.setIL0 v).C = s.C := rfl
@[simp] theorem State.setIL0_P : (s.setIL0 v).P = s.P := rfl
@[simp] theorem State.setIL0_SA : (s.setIL0 v).SA = s.SA := rfl
@[simp] theorem State.setIL0_SB : (s.setIL0 v).SB = s.SB := rfl
@[simp] theorem State.setIL0_SC : (s.setIL0 v).SC = s.SC := rfl
@[simp] theorem State.setIL0_Q : (s.setIL0 v).Q = s.Q := rfl
@[simp] theorem State.setIL0_EN : (s.setIL0 v).EN = s.EN := rfl
@[simp] theorem State.setIL0_G : (s.setIL0 v).G = s.G := rfl
@[simp] theorem State.setIL0_D : (s.setIL0 v).D = s.D := rfl
@[simp] theorem State.setIL0_SIO : (s.setIL0 v).SIO = s.SIO := rfl
@[simp] theorem State.setIL0_SKL : (s.setIL0 v).SKL = s.SKL := rfl
@[simp] theorem State.setIL0_IL3 : (s.setIL0 v).IL3 = s.IL3 := rfl
@[simp] theorem State.setIL0_IL0 : (s.setIL0 v).IL0 = v := rfl
@[simp] theorem State.setIL0_TC : (s.setIL0 v).TC = s.TC := rfl
@[simp] theorem State.setIL0_T : (s.setIL0 v).T = s.T := rfl
@[simp] theorem State.setIL0_skip : (s.setIL0 v).skip = s.skip := rfl
@[simp] theorem State.setIL0_lbiChain : (s.setIL0 v).lbiChain = s.lbiChain := rfl
@[simp] theorem State.setIL0_skipSaved : (s.setIL0 v).skipSaved = s.skipSaved := rfl
@[simp] theorem State.setIL0_irq : (s.setIL0 v).irq = s.irq := rfl
@[simp] theorem State.setIL0_ram : (s.setIL0 v).ram = s.ram := rfl
@[simp] theorem State.setIL0_rom : (s.setIL0 v).rom = s.rom := rfl
@[simp] theorem State.setIL0_part : (s.setIL0 v).part = s.part := rfl
@[simp] theorem State.setIL0_script : (s.setIL0 v).script = s.script := rfl
@[simp] theorem State.setIL0_free : (s.setIL0 v).free = s.free := rfl
end

section
variable (s : State) (v : BitVec 10)
@[simp] theorem State.setTC_A : (s.setTC v).A = s.A := rfl
@[simp] theorem State.setTC_B : (s.setTC v).B = s.B := rfl
@[simp] theorem State.setTC_C : (s.setTC v).C = s.C := rfl
@[simp] theorem State.setTC_P : (s.setTC v).P = s.P := rfl
@[simp] theorem State.setTC_SA : (s.setTC v).SA = s.SA := rfl
@[simp] theorem State.setTC_SB : (s.setTC v).SB = s.SB := rfl
@[simp] theorem State.setTC_SC : (s.setTC v).SC = s.SC := rfl
@[simp] theorem State.setTC_Q : (s.setTC v).Q = s.Q := rfl
@[simp] theorem State.setTC_EN : (s.setTC v).EN = s.EN := rfl
@[simp] theorem State.setTC_G : (s.setTC v).G = s.G := rfl
@[simp] theorem State.setTC_D : (s.setTC v).D = s.D := rfl
@[simp] theorem State.setTC_SIO : (s.setTC v).SIO = s.SIO := rfl
@[simp] theorem State.setTC_SKL : (s.setTC v).SKL = s.SKL := rfl
@[simp] theorem State.setTC_IL3 : (s.setTC v).IL3 = s.IL3 := rfl
@[simp] theorem State.setTC_IL0 : (s.setTC v).IL0 = s.IL0 := rfl
@[simp] theorem State.setTC_TC : (s.setTC v).TC = v := rfl
@[simp] theorem State.setTC_T : (s.setTC v).T = s.T := rfl
@[simp] theorem State.setTC_skip : (s.setTC v).skip = s.skip := rfl
@[simp] theorem State.setTC_lbiChain : (s.setTC v).lbiChain = s.lbiChain := rfl
@[simp] theorem State.setTC_skipSaved : (s.setTC v).skipSaved = s.skipSaved := rfl
@[simp] theorem State.setTC_irq : (s.setTC v).irq = s.irq := rfl
@[simp] theorem State.setTC_ram : (s.setTC v).ram = s.ram := rfl
@[simp] theorem State.setTC_rom : (s.setTC v).rom = s.rom := rfl
@[simp] theorem State.setTC_part : (s.setTC v).part = s.part := rfl
@[simp] theorem State.setTC_script : (s.setTC v).script = s.script := rfl
@[simp] theorem State.setTC_free : (s.setTC v).free = s.free := rfl
end

section
variable (s : State) (v : Bool)
@[simp] theorem State.setT_A : (s.setT v).A = s.A := rfl
@[simp] theorem State.setT_B : (s.setT v).B = s.B := rfl
@[simp] theorem State.setT_C : (s.setT v).C = s.C := rfl
@[simp] theorem State.setT_P : (s.setT v).P = s.P := rfl
@[simp] theorem State.setT_SA : (s.setT v).SA = s.SA := rfl
@[simp] theorem State.setT_SB : (s.setT v).SB = s.SB := rfl
@[simp] theorem State.setT_SC : (s.setT v).SC = s.SC := rfl
@[simp] theorem State.setT_Q : (s.setT v).Q = s.Q := rfl
@[simp] theorem State.setT_EN : (s.setT v).EN = s.EN := rfl
@[simp] theorem State.setT_G : (s.setT v).G = s.G := rfl
@[simp] theorem State.setT_D : (s.setT v).D = s.D := rfl
@[simp] theorem State.setT_SIO : (s.setT v).SIO = s.SIO := rfl
@[simp] theorem State.setT_SKL : (s.setT v).SKL = s.SKL := rfl
@[simp] theorem State.setT_IL3 : (s.setT v).IL3 = s.IL3 := rfl
@[simp] theorem State.setT_IL0 : (s.setT v).IL0 = s.IL0 := rfl
@[simp] theorem State.setT_TC : (s.setT v).TC = s.TC := rfl
@[simp] theorem State.setT_T : (s.setT v).T = v := rfl
@[simp] theorem State.setT_skip : (s.setT v).skip = s.skip := rfl
@[simp] theorem State.setT_lbiChain : (s.setT v).lbiChain = s.lbiChain := rfl
@[simp] theorem State.setT_skipSaved : (s.setT v).skipSaved = s.skipSaved := rfl
@[simp] theorem State.setT_irq : (s.setT v).irq = s.irq := rfl
@[simp] theorem State.setT_ram : (s.setT v).ram = s.ram := rfl
@[simp] theorem State.setT_rom : (s.setT v).rom = s.rom := rfl
@[simp] theorem State.setT_part : (s.setT v).part = s.part := rfl
@[simp] theorem State.setT_script : (s.setT v).script = s.script := rfl
@[simp] theorem State.setT_free : (s.setT v).free = s.free := rfl
end

section
variable (s : State) (v : Bool)
@[simp] theorem State.setSkip_A : (s.setSkip v).A = s.A := rfl
@[simp] theorem State.setSkip_B : (s.setSkip v).B = s.B := rfl
@[simp] theorem State.setSkip_C : (s.setSkip v).C = s.C := rfl
@[simp] theorem State.setSkip_P : (s.setSkip v).P = s.P := rfl
@[simp] theorem State.setSkip_SA : (s.setSkip v).SA = s.SA := rfl
@[simp] theorem State.setSkip_SB : (s.setSkip v).SB = s.SB := rfl
@[simp] theorem State.setSkip_SC : (s.setSkip v).SC = s.SC := rfl
@[simp] theorem State.setSkip_Q : (s.setSkip v).Q = s.Q := rfl
@[simp] theorem State.setSkip_EN : (s.setSkip v).EN = s.EN := rfl
@[simp] theorem State.setSkip_G : (s.setSkip v).G = s.G := rfl
@[simp] theorem State.setSkip_D : (s.setSkip v).D = s.D := rfl
@[simp] theorem State.setSkip_SIO : (s.setSkip v).SIO = s.SIO := rfl
@[simp] theorem State.setSkip_SKL : (s.setSkip v).SKL = s.SKL := rfl
@[simp] theorem State.setSkip_IL3 : (s.setSkip v).IL3 = s.IL3 := rfl
@[simp] theorem State.setSkip_IL0 : (s.setSkip v).IL0 = s.IL0 := rfl
@[simp] theorem State.setSkip_TC : (s.setSkip v).TC = s.TC := rfl
@[simp] theorem State.setSkip_T : (s.setSkip v).T = s.T := rfl
@[simp] theorem State.setSkip_skip : (s.setSkip v).skip = v := rfl
@[simp] theorem State.setSkip_lbiChain : (s.setSkip v).lbiChain = s.lbiChain := rfl
@[simp] theorem State.setSkip_skipSaved : (s.setSkip v).skipSaved = s.skipSaved := rfl
@[simp] theorem State.setSkip_irq : (s.setSkip v).irq = s.irq := rfl
@[simp] theorem State.setSkip_ram : (s.setSkip v).ram = s.ram := rfl
@[simp] theorem State.setSkip_rom : (s.setSkip v).rom = s.rom := rfl
@[simp] theorem State.setSkip_part : (s.setSkip v).part = s.part := rfl
@[simp] theorem State.setSkip_script : (s.setSkip v).script = s.script := rfl
@[simp] theorem State.setSkip_free : (s.setSkip v).free = s.free := rfl
end

section
variable (s : State) (v : Bool)
@[simp] theorem State.setLbiChain_A : (s.setLbiChain v).A = s.A := rfl
@[simp] theorem State.setLbiChain_B : (s.setLbiChain v).B = s.B := rfl
@[simp] theorem State.setLbiChain_C : (s.setLbiChain v).C = s.C := rfl
@[simp] theorem State.setLbiChain_P : (s.setLbiChain v).P = s.P := rfl
@[simp] theorem State.setLbiChain_SA : (s.setLbiChain v).SA = s.SA := rfl
@[simp] theorem State.setLbiChain_SB : (s.setLbiChain v).SB = s.SB := rfl
@[simp] theorem State.setLbiChain_SC : (s.setLbiChain v).SC = s.SC := rfl
@[simp] theorem State.setLbiChain_Q : (s.setLbiChain v).Q = s.Q := rfl
@[simp] theorem State.setLbiChain_EN : (s.setLbiChain v).EN = s.EN := rfl
@[simp] theorem State.setLbiChain_G : (s.setLbiChain v).G = s.G := rfl
@[simp] theorem State.setLbiChain_D : (s.setLbiChain v).D = s.D := rfl
@[simp] theorem State.setLbiChain_SIO : (s.setLbiChain v).SIO = s.SIO := rfl
@[simp] theorem State.setLbiChain_SKL : (s.setLbiChain v).SKL = s.SKL := rfl
@[simp] theorem State.setLbiChain_IL3 : (s.setLbiChain v).IL3 = s.IL3 := rfl
@[simp] theorem State.setLbiChain_IL0 : (s.setLbiChain v).IL0 = s.IL0 := rfl
@[simp] theorem State.setLbiChain_TC : (s.setLbiChain v).TC = s.TC := rfl
@[simp] theorem State.setLbiChain_T : (s.setLbiChain v).T = s.T := rfl
@[simp] theorem State.setLbiChain_skip : (s.setLbiChain v).skip = s.skip := rfl
@[simp] theorem State.setLbiChain_lbiChain : (s.setLbiChain v).lbiChain = v := rfl
@[simp] theorem State.setLbiChain_skipSaved : (s.setLbiChain v).skipSaved = s.skipSaved := rfl
@[simp] theorem State.setLbiChain_irq : (s.setLbiChain v).irq = s.irq := rfl
@[simp] theorem State.setLbiChain_ram : (s.setLbiChain v).ram = s.ram := rfl
@[simp] theorem State.setLbiChain_rom : (s.setLbiChain v).rom = s.rom := rfl
@[simp] theorem State.setLbiChain_part : (s.setLbiChain v).part = s.part := rfl
@[simp] theorem State.setLbiChain_script : (s.setLbiChain v).script = s.script := rfl
@[simp] theorem State.setLbiChain_free : (s.setLbiChain v).free = s.free := rfl
end

section
variable (s : State) (v : Bool)
@[simp] theorem State.setSkipSaved_A : (s.setSkipSaved v).A = s.A := rfl
@[simp] theorem State.setSkipSaved_B : (s.setSkipSaved v).B = s.B := rfl
@[simp] theorem State.setSkipSaved_C : (s.setSkipSaved v).C = s.C := rfl
@[simp] theorem State.setSkipSaved_P : (s.setSkipSaved v).P = s.P := rfl
@[simp] theorem State.setSkipSaved_SA : (s.setSkipSaved v).SA = s.SA := rfl
@[simp] theorem State.setSkipSaved_SB : (s.setSkipSaved v).SB = s.SB := rfl
@[simp] theorem State.setSkipSaved_SC : (s.setSkipSaved v).SC = s.SC := rfl
@[simp] theorem State.setSkipSaved_Q : (s.setSkipSaved v).Q = s.Q := rfl
@[simp] theorem State.setSkipSaved_EN : (s.setSkipSaved v).EN = s.EN := rfl
@[simp] theorem State.setSkipSaved_G : (s.setSkipSaved v).G = s.G := rfl
@[simp] theorem State.setSkipSaved_D : (s.setSkipSaved v).D = s.D := rfl
@[simp] theorem State.setSkipSaved_SIO : (s.setSkipSaved v).SIO = s.SIO := rfl
@[simp] theorem State.setSkipSaved_SKL : (s.setSkipSaved v).SKL = s.SKL := rfl
@[simp] theorem State.setSkipSaved_IL3 : (s.setSkipSaved v).IL3 = s.IL3 := rfl
@[simp] theorem State.setSkipSaved_IL0 : (s.setSkipSaved v).IL0 = s.IL0 := rfl
@[simp] theorem State.setSkipSaved_TC : (s.setSkipSaved v).TC = s.TC := rfl
@[simp] theorem State.setSkipSaved_T : (s.setSkipSaved v).T = s.T := rfl
@[simp] theorem State.setSkipSaved_skip : (s.setSkipSaved v).skip = s.skip := rfl
@[simp] theorem State.setSkipSaved_lbiChain : (s.setSkipSaved v).lbiChain = s.lbiChain := rfl
@[simp] theorem State.setSkipSaved_skipSaved : (s.setSkipSaved v).skipSaved = v := rfl
@[simp] theorem State.setSkipSaved_irq : (s.setSkipSaved v).irq = s.irq := rfl
@[simp] theorem State.setSkipSaved_ram : (s.setSkipSaved v).ram = s.ram := rfl
@[simp] theorem State.setSkipSaved_rom : (s.setSkipSaved v).rom = s.rom := rfl
@[simp] theorem State.setSkipSaved_part : (s.setSkipSaved v).part = s.part := rfl
@[simp] theorem State.setSkipSaved_script : (s.setSkipSaved v).script = s.script := rfl
@[simp] theorem State.setSkipSaved_free : (s.setSkipSaved v).free = s.free := rfl
end

section
variable (s : State) (v : Bool)
@[simp] theorem State.setIrq_A : (s.setIrq v).A = s.A := rfl
@[simp] theorem State.setIrq_B : (s.setIrq v).B = s.B := rfl
@[simp] theorem State.setIrq_C : (s.setIrq v).C = s.C := rfl
@[simp] theorem State.setIrq_P : (s.setIrq v).P = s.P := rfl
@[simp] theorem State.setIrq_SA : (s.setIrq v).SA = s.SA := rfl
@[simp] theorem State.setIrq_SB : (s.setIrq v).SB = s.SB := rfl
@[simp] theorem State.setIrq_SC : (s.setIrq v).SC = s.SC := rfl
@[simp] theorem State.setIrq_Q : (s.setIrq v).Q = s.Q := rfl
@[simp] theorem State.setIrq_EN : (s.setIrq v).EN = s.EN := rfl
@[simp] theorem State.setIrq_G : (s.setIrq v).G = s.G := rfl
@[simp] theorem State.setIrq_D : (s.setIrq v).D = s.D := rfl
@[simp] theorem State.setIrq_SIO : (s.setIrq v).SIO = s.SIO := rfl
@[simp] theorem State.setIrq_SKL : (s.setIrq v).SKL = s.SKL := rfl
@[simp] theorem State.setIrq_IL3 : (s.setIrq v).IL3 = s.IL3 := rfl
@[simp] theorem State.setIrq_IL0 : (s.setIrq v).IL0 = s.IL0 := rfl
@[simp] theorem State.setIrq_TC : (s.setIrq v).TC = s.TC := rfl
@[simp] theorem State.setIrq_T : (s.setIrq v).T = s.T := rfl
@[simp] theorem State.setIrq_skip : (s.setIrq v).skip = s.skip := rfl
@[simp] theorem State.setIrq_lbiChain : (s.setIrq v).lbiChain = s.lbiChain := rfl
@[simp] theorem State.setIrq_skipSaved : (s.setIrq v).skipSaved = s.skipSaved := rfl
@[simp] theorem State.setIrq_irq : (s.setIrq v).irq = v := rfl
@[simp] theorem State.setIrq_ram : (s.setIrq v).ram = s.ram := rfl
@[simp] theorem State.setIrq_rom : (s.setIrq v).rom = s.rom := rfl
@[simp] theorem State.setIrq_part : (s.setIrq v).part = s.part := rfl
@[simp] theorem State.setIrq_script : (s.setIrq v).script = s.script := rfl
@[simp] theorem State.setIrq_free : (s.setIrq v).free = s.free := rfl
end

section
variable (s : State) (v : Memory 4)
@[simp] theorem State.setRam_A : (s.setRam v).A = s.A := rfl
@[simp] theorem State.setRam_B : (s.setRam v).B = s.B := rfl
@[simp] theorem State.setRam_C : (s.setRam v).C = s.C := rfl
@[simp] theorem State.setRam_P : (s.setRam v).P = s.P := rfl
@[simp] theorem State.setRam_SA : (s.setRam v).SA = s.SA := rfl
@[simp] theorem State.setRam_SB : (s.setRam v).SB = s.SB := rfl
@[simp] theorem State.setRam_SC : (s.setRam v).SC = s.SC := rfl
@[simp] theorem State.setRam_Q : (s.setRam v).Q = s.Q := rfl
@[simp] theorem State.setRam_EN : (s.setRam v).EN = s.EN := rfl
@[simp] theorem State.setRam_G : (s.setRam v).G = s.G := rfl
@[simp] theorem State.setRam_D : (s.setRam v).D = s.D := rfl
@[simp] theorem State.setRam_SIO : (s.setRam v).SIO = s.SIO := rfl
@[simp] theorem State.setRam_SKL : (s.setRam v).SKL = s.SKL := rfl
@[simp] theorem State.setRam_IL3 : (s.setRam v).IL3 = s.IL3 := rfl
@[simp] theorem State.setRam_IL0 : (s.setRam v).IL0 = s.IL0 := rfl
@[simp] theorem State.setRam_TC : (s.setRam v).TC = s.TC := rfl
@[simp] theorem State.setRam_T : (s.setRam v).T = s.T := rfl
@[simp] theorem State.setRam_skip : (s.setRam v).skip = s.skip := rfl
@[simp] theorem State.setRam_lbiChain : (s.setRam v).lbiChain = s.lbiChain := rfl
@[simp] theorem State.setRam_skipSaved : (s.setRam v).skipSaved = s.skipSaved := rfl
@[simp] theorem State.setRam_irq : (s.setRam v).irq = s.irq := rfl
@[simp] theorem State.setRam_ram : (s.setRam v).ram = v := rfl
@[simp] theorem State.setRam_rom : (s.setRam v).rom = s.rom := rfl
@[simp] theorem State.setRam_part : (s.setRam v).part = s.part := rfl
@[simp] theorem State.setRam_script : (s.setRam v).script = s.script := rfl
@[simp] theorem State.setRam_free : (s.setRam v).free = s.free := rfl
end

section
variable (s : State) (v : Memory 8)
@[simp] theorem State.setRom_A : (s.setRom v).A = s.A := rfl
@[simp] theorem State.setRom_B : (s.setRom v).B = s.B := rfl
@[simp] theorem State.setRom_C : (s.setRom v).C = s.C := rfl
@[simp] theorem State.setRom_P : (s.setRom v).P = s.P := rfl
@[simp] theorem State.setRom_SA : (s.setRom v).SA = s.SA := rfl
@[simp] theorem State.setRom_SB : (s.setRom v).SB = s.SB := rfl
@[simp] theorem State.setRom_SC : (s.setRom v).SC = s.SC := rfl
@[simp] theorem State.setRom_Q : (s.setRom v).Q = s.Q := rfl
@[simp] theorem State.setRom_EN : (s.setRom v).EN = s.EN := rfl
@[simp] theorem State.setRom_G : (s.setRom v).G = s.G := rfl
@[simp] theorem State.setRom_D : (s.setRom v).D = s.D := rfl
@[simp] theorem State.setRom_SIO : (s.setRom v).SIO = s.SIO := rfl
@[simp] theorem State.setRom_SKL : (s.setRom v).SKL = s.SKL := rfl
@[simp] theorem State.setRom_IL3 : (s.setRom v).IL3 = s.IL3 := rfl
@[simp] theorem State.setRom_IL0 : (s.setRom v).IL0 = s.IL0 := rfl
@[simp] theorem State.setRom_TC : (s.setRom v).TC = s.TC := rfl
@[simp] theorem State.setRom_T : (s.setRom v).T = s.T := rfl
@[simp] theorem State.setRom_skip : (s.setRom v).skip = s.skip := rfl
@[simp] theorem State.setRom_lbiChain : (s.setRom v).lbiChain = s.lbiChain := rfl
@[simp] theorem State.setRom_skipSaved : (s.setRom v).skipSaved = s.skipSaved := rfl
@[simp] theorem State.setRom_irq : (s.setRom v).irq = s.irq := rfl
@[simp] theorem State.setRom_ram : (s.setRom v).ram = s.ram := rfl
@[simp] theorem State.setRom_rom : (s.setRom v).rom = v := rfl
@[simp] theorem State.setRom_part : (s.setRom v).part = s.part := rfl
@[simp] theorem State.setRom_script : (s.setRom v).script = s.script := rfl
@[simp] theorem State.setRom_free : (s.setRom v).free = s.free := rfl
end

section
variable (s : State) (v : List Inputs)
@[simp] theorem State.setScript_A : (s.setScript v).A = s.A := rfl
@[simp] theorem State.setScript_B : (s.setScript v).B = s.B := rfl
@[simp] theorem State.setScript_C : (s.setScript v).C = s.C := rfl
@[simp] theorem State.setScript_P : (s.setScript v).P = s.P := rfl
@[simp] theorem State.setScript_SA : (s.setScript v).SA = s.SA := rfl
@[simp] theorem State.setScript_SB : (s.setScript v).SB = s.SB := rfl
@[simp] theorem State.setScript_SC : (s.setScript v).SC = s.SC := rfl
@[simp] theorem State.setScript_Q : (s.setScript v).Q = s.Q := rfl
@[simp] theorem State.setScript_EN : (s.setScript v).EN = s.EN := rfl
@[simp] theorem State.setScript_G : (s.setScript v).G = s.G := rfl
@[simp] theorem State.setScript_D : (s.setScript v).D = s.D := rfl
@[simp] theorem State.setScript_SIO : (s.setScript v).SIO = s.SIO := rfl
@[simp] theorem State.setScript_SKL : (s.setScript v).SKL = s.SKL := rfl
@[simp] theorem State.setScript_IL3 : (s.setScript v).IL3 = s.IL3 := rfl
@[simp] theorem State.setScript_IL0 : (s.setScript v).IL0 = s.IL0 := rfl
@[simp] theorem State.setScript_TC : (s.setScript v).TC = s.TC := rfl
@[simp] theorem State.setScript_T : (s.setScript v).T = s.T := rfl
@[simp] theorem State.setScript_skip : (s.setScript v).skip = s.skip := rfl
@[simp] theorem State.setScript_lbiChain : (s.setScript v).lbiChain = s.lbiChain := rfl
@[simp] theorem State.setScript_skipSaved : (s.setScript v).skipSaved = s.skipSaved := rfl
@[simp] theorem State.setScript_irq : (s.setScript v).irq = s.irq := rfl
@[simp] theorem State.setScript_ram : (s.setScript v).ram = s.ram := rfl
@[simp] theorem State.setScript_rom : (s.setScript v).rom = s.rom := rfl
@[simp] theorem State.setScript_part : (s.setScript v).part = s.part := rfl
@[simp] theorem State.setScript_script : (s.setScript v).script = v := rfl
@[simp] theorem State.setScript_free : (s.setScript v).free = s.free := rfl
end

section
variable (s : State) (v : Nat)
@[simp] theorem State.setFree_A : (s.setFree v).A = s.A := rfl
@[simp] theorem State.setFree_B : (s.setFree v).B = s.B := rfl
@[simp] theorem State.setFree_C : (s.setFree v).C = s.C := rfl
@[simp] theorem State.setFree_P : (s.setFree v).P = s.P := rfl
@[simp] theorem State.setFree_SA : (s.setFree v).SA = s.SA := rfl
@[simp] theorem State.setFree_SB : (s.setFree v).SB = s.SB := rfl
@[simp] theorem State.setFree_SC : (s.setFree v).SC = s.SC := rfl
@[simp] theorem State.setFree_Q : (s.setFree v).Q = s.Q := rfl
@[simp] theorem State.setFree_EN : (s.setFree v).EN = s.EN := rfl
@[simp] theorem State.setFree_G : (s.setFree v).G = s.G := rfl
@[simp] theorem State.setFree_D : (s.setFree v).D = s.D := rfl
@[simp] theorem State.setFree_SIO : (s.setFree v).SIO = s.SIO := rfl
@[simp] theorem State.setFree_SKL : (s.setFree v).SKL = s.SKL := rfl
@[simp] theorem State.setFree_IL3 : (s.setFree v).IL3 = s.IL3 := rfl
@[simp] theorem State.setFree_IL0 : (s.setFree v).IL0 = s.IL0 := rfl
@[simp] theorem State.setFree_TC : (s.setFree v).TC = s.TC := rfl
@[simp] theorem State.setFree_T : (s.setFree v).T = s.T := rfl
@[simp] theorem State.setFree_skip : (s.setFree v).skip = s.skip := rfl
@[simp] theorem State.setFree_lbiChain : (s.setFree v).lbiChain = s.lbiChain := rfl
@[simp] theorem State.setFree_skipSaved : (s.setFree v).skipSaved = s.skipSaved := rfl
@[simp] theorem State.setFree_irq : (s.setFree v).irq = s.irq := rfl
@[simp] theorem State.setFree_ram : (s.setFree v).ram = s.ram := rfl
@[simp] theorem State.setFree_rom : (s.setFree v).rom = s.rom := rfl
@[simp] theorem State.setFree_part : (s.setFree v).part = s.part := rfl
@[simp] theorem State.setFree_script : (s.setFree v).script = s.script := rfl
@[simp] theorem State.setFree_free : (s.setFree v).free = v := rfl
end

end Sys2Proof.Machine
end

