-- ==== Sys2Proof/Laws/Agents.lean ====
section
/-! SUPPORT. What the cycles and the events of the outside world can change. -/

namespace Sys2Proof.Machine

variable (s : State)

/-- A tick writes TC and T alone (R305). -/
theorem State.tickTimeBase_eq :
    s.tickTimeBase = { s with TC := s.tickTimeBase.TC, T := s.tickTimeBase.T } := by
  unfold State.tickTimeBase
  split
  · rfl
  · split <;> rfl

theorem State.shiftSIO_eq (si : Bit) :
    s.shiftSIO si = { s with SIO := s.SIO.extractLsb' 0 3 ++ si } := rfl

/-- A cycle writes TC, T and SIO alone (R132). -/
theorem State.cycle_eq (si : Bit) :
    s.cycle si =
      { s with TC := (s.cycle si).TC, T := (s.cycle si).T, SIO := (s.cycle si).SIO } := by
  unfold State.cycle
  rw [State.tickTimeBase_eq]
  split <;> rfl

/-- The cycles of an instruction write TC, T and SIO alone (R132). -/
theorem State.runCycles_eq (i : Inputs) (k n : Nat) :
    s.runCycles i k n =
      { s with
        TC := (s.runCycles i k n).TC
        T := (s.runCycles i k n).T
        SIO := (s.runCycles i k n).SIO } := by
  induction n generalizing s k with
  | zero => rfl
  | succ n ih =>
    simp only [State.runCycles]
    rw [ih (s.cycle (i.si k)) (k + 1), State.cycle_eq]

@[simp] theorem State.applyEvents_nil : s.applyEvents [] = s := rfl

@[simp] theorem State.applyEvents_cons (e : Event) (es : List Event) :
    s.applyEvents (e :: es) = (s.applyEvent e).applyEvents es := rfl

/-- No event changes program memory, the part or the script (R61, R9). -/
theorem State.applyEvent_parameters (e : Event) :
    (s.applyEvent e).rom = s.rom ∧ (s.applyEvent e).part = s.part
      ∧ (s.applyEvent e).script = s.script := by
  cases e <;> simp only [State.applyEvent]
  case reset => exact ⟨rfl, rfl, rfl⟩
  case powerUp => exact ⟨rfl, rfl, rfl⟩
  all_goals split <;> exact ⟨rfl, rfl, rfl⟩

theorem State.applyEvents_parameters (es : List Event) :
    (s.applyEvents es).rom = s.rom ∧ (s.applyEvents es).part = s.part
      ∧ (s.applyEvents es).script = s.script := by
  induction es generalizing s with
  | nil => exact ⟨rfl, rfl, rfl⟩
  | cons e es ih =>
    obtain ⟨h1, h2, h3⟩ := s.applyEvent_parameters e
    obtain ⟨i1, i2, i3⟩ := ih (s.applyEvent e)
    exact ⟨i1.trans h1, i2.trans h2, i3.trans h3⟩

/-- A step that RESET or power-up overrides keeps program memory and the part too (R61, R9). -/
theorem State.overriddenStep_parameters :
    s.overriddenStep.rom = s.rom ∧ s.overriddenStep.part = s.part
      ∧ s.overriddenStep.script = s.script.tail :=
  s.nextInputs.applyEvents_parameters s.inputs.events

/-- Where the script is used up nothing overrides a step. -/
theorem State.overridden_of_script_nil (h : s.script = []) : s.overridden = false := by
  simp [State.overridden, State.inputs, h]

/-- The cells power-up writes are in canonical form and within the part (R337). -/
theorem powerUpCells_wf (part : Part) (free n : Nat) :
    (powerUpCells part free n).wf = true ∧ (powerUpCells part free n).within part.cellExists = true := by
  induction n with
  | zero => exact ⟨rfl, rfl⟩
  | succ n ih =>
    unfold powerUpCells
    split
    · exact ⟨Memory.wf_write ih.1 _ _, Memory.within_write ih.2 ‹_› _⟩
    · exact ih

/-- What each cell reads after power-up: its free value where the part has it (R337). -/
theorem powerUpCells_read (part : Part) (free n c : Nat) :
    (powerUpCells part free n).read c =
      if c < n ∧ part.cellExists c = true then Config.powerUpRam free c else Memory.unlisted := by
  induction n with
  | zero => rfl
  | succ n ih =>
    unfold powerUpCells
    split
    · rename_i hn
      rw [Memory.read_write (powerUpCells_wf part free n).1, ih]
      by_cases h : n = c
      · subst c
        simp [hn]
      · have : c < n + 1 ↔ c < n := by omega
        simp [h, this]
    · rename_i hn
      rw [ih]
      by_cases h : n = c
      · subst c
        simp [hn]
      · have : c < n + 1 ↔ c < n := by omega
        simp [this]

end Sys2Proof.Machine
end

