-- ==== Sys2Proof/Laws/Ops.lean ====
section
/-! SUPPORT. One lemma per shared operation that says everything it does, to be cited instead of unfolding
it. -/

namespace Sys2Proof.Machine

variable (s : State)

/-! The adder (R140). -/

theorem addDigits_toNat (x y : Nibble) (c : Bit) :
    (addDigits x y c).toNat = x.toNat + y.toNat + c.toNat := by
  have := x.isLt
  have := y.isLt
  have := c.isLt
  simp only [addDigits, BitVec.toNat_add, BitVec.toNat_setWidth]
  omega

theorem sumDigit_toNat (sum : BitVec 5) : (sumDigit sum).toNat = sum.toNat % 16 := by
  simp [sumDigit]

theorem sumCarry_toNat (sum : BitVec 5) : (sumCarry sum).toNat = sum.toNat / 16 := by
  have := sum.isLt
  simp only [sumCarry, BitVec.extractLsb'_toNat, Nat.shiftRight_eq_div_pow]
  omega

theorem carriesOut_eq (sum : BitVec 5) : carriesOut sum = decide (16 ≤ sum.toNat) := by
  revert sum
  decide

theorem State.skipIf_eq (c : Bool) : s.skipIf c = { s with skip := s.skip || c } := rfl

theorem State.takeSum_eq (sum : BitVec 5) :
    s.takeSum sum =
      { s with A := sumDigit sum, C := sumCarry sum, skip := s.skip || carriesOut sum } := rfl

/-! Data memory (R66, R270). -/

@[simp] theorem State.readDigit_setA (v : Nibble) (a : RamAddr) :
    (s.setA v).readDigit a = s.readDigit a := rfl

theorem State.writeDigit_eq (a : RamAddr) (v : Nibble) :
    s.writeDigit a v = { s with ram := s.ram.write (s.storeCell a) v } := rfl

theorem State.exchangeAt_eq (a : RamAddr) :
    s.exchangeAt a = { s with A := s.readDigit a, ram := s.ram.write (s.storeCell a) s.A } := rfl

theorem State.setM_eq (v : Nibble) : s.setM v = { s with ram := s.ram.write (s.storeCell s.B) v } := rfl

/-- On a part with 64 digits a write reaches the address itself (R66). -/
theorem State.storeCell_cop420 (h : s.part.variant.isCop410 = false) (a : RamAddr) :
    s.storeCell a = a.toNat := by simp [State.storeCell, h]

/-- On a part with 64 digits a read gives the digit at the address (R66). -/
theorem State.readDigit_cop420 (h : s.part.variant.isCop410 = false) (a : RamAddr) :
    s.readDigit a = s.ram.read a.toNat := by
  simp [State.readDigit, State.noCell, h, s.storeCell_cop420 h]

/-- The alias of digits 1 to 7, and the cells of digits 0 and 9 to 15 (R270). -/
theorem cop410Cell_exists : ∀ a : RamAddr, a.extractLsb' 0 4 ≠ 8 →
    cop410Cell a < 64 ∧ (cop410Cell a % 16 = 0 ∨ 9 ≤ cop410Cell a % 16) := by decide

theorem cop410FreeCell_exists : ∀ n : BitVec 5,
    cop410FreeCell n < 64 ∧ (cop410FreeCell n % 16 = 0 ∨ 9 ≤ cop410FreeCell n % 16) := by decide

/-- Every write reaches a cell the part has (R66, R270). -/
theorem State.storeCell_exists (a : RamAddr) : s.part.cellExists (s.storeCell a) = true := by
  unfold Part.cellExists State.storeCell
  by_cases h : s.part.variant.isCop410 = true
  · by_cases h8 : s.noCell a = true
    · simpa [h, h8] using cop410FreeCell_exists _
    · have : a.extractLsb' 0 4 ≠ 8 := by simpa [State.noCell, h] using h8
      simpa [h, h8] using cop410Cell_exists a this
  · have := a.isLt
    simp [h]
    omega

/-- A canonical RAM reads back what was written, in the cell written. -/
theorem State.ram_read_writeDigit (h : s.ram.wf = true) (a : RamAddr) (v : Nibble) (c : Nat) :
    (s.writeDigit a v).ram.read c = if s.storeCell a = c then v else s.ram.read c :=
  Memory.read_write h _ _ _

/-! The stack (R33, R34, R269) and the interrupt (R295, R298). -/

theorem State.push_eq (v : RomAddr) :
    s.push v =
      { s with
        SA := v
        SB := s.SA
        SC := if s.part.variant.isCop410 then s.SC else s.SB } := by
  unfold State.push
  split <;> simp [State.setSA, State.setSB, State.setSC]

theorem State.popP_eq :
    s.popP =
      { s with
        P := s.SA
        SA := s.SB
        SB := if s.part.variant.isCop410 then s.SB else s.SC } := by
  unfold State.popP
  split <;> simp [State.setSA, State.setSB, State.setP]

theorem State.enterInterrupt_eq :
    s.enterInterrupt =
      { s with
        SA := s.P
        SB := s.SA
        SC := if s.part.variant.isCop410 then s.SC else s.SB
        P := interruptEntry
        EN := s.EN &&& 0xD
        skip := false
        skipSaved := s.skip
        lbiChain := false
        irq := false } := by
  rw [State.enterInterrupt, State.push_eq]
  rfl

theorem State.returnWithSavedSkip_eq :
    s.returnWithSavedSkip =
      { s with
        P := s.SA
        SA := s.SB
        SB := if s.part.variant.isCop410 then s.SB else s.SC
        skip := s.skipSaved
        skipSaved := false } := by
  rw [State.returnWithSavedSkip, State.popP_eq]
  rfl

theorem State.nextInputs_eq :
    s.nextInputs = { s with script := s.script.tail, free := s.free + 1 } := rfl

/-- A 9-bit mask leaves a 9-bit address (R268). -/
theorem Part.romAddr_lt (part : Part) (a : RomAddr) (h : part.variant.isCop410 = true) :
    (part.romAddr a).toNat < 512 := by
  have : (a &&& 0x1FF).toNat ≤ 0x1FF := by
    rw [BitVec.toNat_and]
    exact Nat.and_le_right
  simp only [Part.romAddr, h, if_true]
  omega

/-! The fields of B (R21). -/

theorem State.setBr_eq (r : BitVec 2) : s.setBr r = { s with B := r ++ s.bd } := rfl

theorem State.setBd_eq (d : Nibble) : s.setBd d = { s with B := s.br ++ d } := rfl

theorem br_append (r : BitVec 2) (d : Nibble) : (r ++ d : RamAddr).extractLsb' 4 2 = r := by
  revert r d
  decide

theorem bd_append (r : BitVec 2) (d : Nibble) : (r ++ d : RamAddr).extractLsb' 0 4 = d := by
  revert r d
  decide

@[simp] theorem State.br_setBr (r : BitVec 2) : (s.setBr r).br = r := br_append r _
@[simp] theorem State.bd_setBr (r : BitVec 2) : (s.setBr r).bd = s.bd := bd_append r _
@[simp] theorem State.br_setBd (d : Nibble) : (s.setBd d).br = s.br := br_append _ d
@[simp] theorem State.bd_setBd (d : Nibble) : (s.setBd d).bd = d := bd_append _ d

end Sys2Proof.Machine
end

