-- ==== Sys2Proof/Laws/PerInstr.lean ====
section
/-! SUPPORT. Statements made per instruction. `EncodingShape`: the encoding has the length of R90, and its
first byte alone says so (R91). -/

namespace Sys2Proof.Laws.EncodingShape

/-- The encoding of a well-formed instruction is one or two bytes, and its first byte begins a two-byte instruction
exactly when it has two (R90, R91). -/
def Statement (i : Instr) : Prop :=
  i.wf = true → (encode i).length = (if i.twoByte then 2 else 1)
    ∧ (encode i).head?.map startsTwoByte = some i.twoByte

theorem two_bytes_of_head {b1 b2 : Byte} {i : Instr} (he : encode i = [b1, b2]) (ht : i.twoByte = true)
    (hb : startsTwoByte b1 = true) : Statement i := by
  intro _
  simp [he, ht, hb]

theorem one_byte_of_head {b : Byte} {i : Instr} (he : encode i = [b]) (ht : i.twoByte = false)
    (hb : startsTwoByte b = false) : Statement i := by
  intro _
  simp [he, ht, hb]

theorem asc : Statement .asc :=
  one_byte_of_head rfl rfl rfl
theorem add : Statement .add :=
  one_byte_of_head rfl rfl rfl
theorem adt : Statement .adt :=
  one_byte_of_head rfl rfl rfl
theorem aisc (y : Nibble) : Statement (.aisc y) :=
  one_byte_of_head rfl rfl ((by decide : ∀ y : Nibble, startsTwoByte (5#4 ++ y) = false) y)
theorem casc : Statement .casc :=
  one_byte_of_head rfl rfl rfl
theorem clra : Statement .clra :=
  one_byte_of_head rfl rfl rfl
theorem comp : Statement .comp :=
  one_byte_of_head rfl rfl rfl
theorem nop : Statement .nop :=
  one_byte_of_head rfl rfl rfl
theorem rc : Statement .rc :=
  one_byte_of_head rfl rfl rfl
theorem sc : Statement .sc :=
  one_byte_of_head rfl rfl rfl
theorem xor : Statement .xor :=
  one_byte_of_head rfl rfl rfl
theorem ing : Statement .ing :=
  two_bytes_of_head rfl rfl rfl
theorem inin : Statement .inin :=
  two_bytes_of_head rfl rfl rfl
theorem inil : Statement .inil :=
  two_bytes_of_head rfl rfl rfl
theorem inl : Statement .inl :=
  two_bytes_of_head rfl rfl rfl
theorem obd : Statement .obd :=
  two_bytes_of_head rfl rfl rfl
theorem ogi (y : Nibble) : Statement (.ogi y) :=
  two_bytes_of_head rfl rfl rfl
theorem omg : Statement .omg :=
  two_bytes_of_head rfl rfl rfl
theorem xas : Statement .xas :=
  one_byte_of_head rfl rfl rfl
theorem jid : Statement .jid :=
  one_byte_of_head rfl rfl rfl
theorem jmp (a : RomAddr) : Statement (.jmp a) :=
  two_bytes_of_head rfl rfl ((by decide : ∀ h : BitVec 2, startsTwoByte (0x18#6 ++ h) = true) _)
theorem jp7 (a : BitVec 7) : Statement (.jp7 a) :=
  one_byte_of_head rfl rfl ((by decide : ∀ a : BitVec 7, startsTwoByte (1#1 ++ a) = false) a)
theorem jp6 (a : BitVec 6) : Statement (.jp6 a) :=
  one_byte_of_head rfl rfl ((by decide : ∀ a : BitVec 6, startsTwoByte (3#2 ++ a) = false) a)
theorem jsrp (a : BitVec 6) : Statement (.jsrp a) :=
  one_byte_of_head rfl rfl ((by decide : ∀ a : BitVec 6, startsTwoByte (2#2 ++ a) = false) a)
theorem jsr (a : RomAddr) : Statement (.jsr a) :=
  two_bytes_of_head rfl rfl ((by decide : ∀ h : BitVec 2, startsTwoByte (0x1A#6 ++ h) = true) _)
theorem ret : Statement .ret :=
  one_byte_of_head rfl rfl rfl
theorem retsk : Statement .retsk :=
  one_byte_of_head rfl rfl rfl
theorem camq : Statement .camq :=
  two_bytes_of_head rfl rfl rfl
theorem cqma : Statement .cqma :=
  two_bytes_of_head rfl rfl rfl
theorem ld (r : BitVec 2) : Statement (.ld r) :=
  one_byte_of_head rfl rfl ((by decide : ∀ r : BitVec 2, startsTwoByte (encodeR r 5) = false) r)
theorem ldd (r : BitVec 2) (d : Nibble) : Statement (.ldd r d) :=
  two_bytes_of_head rfl rfl rfl
theorem lqid : Statement .lqid :=
  one_byte_of_head rfl rfl rfl
theorem rmb0 : Statement .rmb0 :=
  one_byte_of_head rfl rfl rfl
theorem rmb1 : Statement .rmb1 :=
  one_byte_of_head rfl rfl rfl
theorem rmb2 : Statement .rmb2 :=
  one_byte_of_head rfl rfl rfl
theorem rmb3 : Statement .rmb3 :=
  one_byte_of_head rfl rfl rfl
theorem smb0 : Statement .smb0 :=
  one_byte_of_head rfl rfl rfl
theorem smb1 : Statement .smb1 :=
  one_byte_of_head rfl rfl rfl
theorem smb2 : Statement .smb2 :=
  one_byte_of_head rfl rfl rfl
theorem smb3 : Statement .smb3 :=
  one_byte_of_head rfl rfl rfl
theorem stii (y : Nibble) : Statement (.stii y) :=
  one_byte_of_head rfl rfl ((by decide : ∀ y : Nibble, startsTwoByte (7#4 ++ y) = false) y)
theorem x (r : BitVec 2) : Statement (.x r) :=
  one_byte_of_head rfl rfl ((by decide : ∀ r : BitVec 2, startsTwoByte (encodeR r 6) = false) r)
theorem xad (r : BitVec 2) (d : Nibble) : Statement (.xad r d) :=
  two_bytes_of_head rfl rfl rfl
theorem xds (r : BitVec 2) : Statement (.xds r) :=
  one_byte_of_head rfl rfl ((by decide : ∀ r : BitVec 2, startsTwoByte (encodeR r 7) = false) r)
theorem xis (r : BitVec 2) : Statement (.xis r) :=
  one_byte_of_head rfl rfl ((by decide : ∀ r : BitVec 2, startsTwoByte (encodeR r 4) = false) r)
theorem cab : Statement .cab :=
  one_byte_of_head rfl rfl rfl
theorem cba : Statement .cba :=
  one_byte_of_head rfl rfl rfl
/-- The one-byte LBI needs its operand well-formed: `LBI r,d` with d = 1 to 8 has no one-byte form (R96). -/
theorem lbi1_head : ∀ (r : BitVec 2) (d : Nibble), (Instr.lbi1 r d).wf = true →
    startsTwoByte (encodeR r (d - 1)) = false := by decide

theorem lbi1 (r : BitVec 2) (d : Nibble) : Statement (.lbi1 r d) :=
  fun hw => one_byte_of_head rfl rfl (lbi1_head r d hw) hw
theorem lbi2 (r : BitVec 2) (d : Nibble) : Statement (.lbi2 r d) :=
  two_bytes_of_head rfl rfl rfl
theorem lei (y : Nibble) : Statement (.lei y) :=
  two_bytes_of_head rfl rfl rfl
theorem xabr : Statement .xabr :=
  one_byte_of_head rfl rfl rfl
theorem skc : Statement .skc :=
  one_byte_of_head rfl rfl rfl
theorem ske : Statement .ske :=
  one_byte_of_head rfl rfl rfl
theorem skgbz0 : Statement .skgbz0 :=
  two_bytes_of_head rfl rfl rfl
theorem skgbz1 : Statement .skgbz1 :=
  two_bytes_of_head rfl rfl rfl
theorem skgbz2 : Statement .skgbz2 :=
  two_bytes_of_head rfl rfl rfl
theorem skgbz3 : Statement .skgbz3 :=
  two_bytes_of_head rfl rfl rfl
theorem skgz : Statement .skgz :=
  two_bytes_of_head rfl rfl rfl
theorem skmbz0 : Statement .skmbz0 :=
  one_byte_of_head rfl rfl rfl
theorem skmbz1 : Statement .skmbz1 :=
  one_byte_of_head rfl rfl rfl
theorem skmbz2 : Statement .skmbz2 :=
  one_byte_of_head rfl rfl rfl
theorem skmbz3 : Statement .skmbz3 :=
  one_byte_of_head rfl rfl rfl
theorem skt : Statement .skt :=
  one_byte_of_head rfl rfl rfl

end Sys2Proof.Laws.EncodingShape
end

