-- ==== Sys2Proof/Laws/Step.lean ====
section
/-! SUPPORT. What a fetch and a step can do, said once. -/

namespace Sys2Proof.Machine

variable {s t : State} {i : Instr}

/-- The state after a fetch is the state before it with P advanced. -/
theorem State.fetch_ok (h : s.fetch = .ok (i, t)) :
    ∃ rest,
      decode s.part (pageOf s.nextP) [s.romRead s.P, s.romRead s.nextP] = .ok (i, rest)
        ∧ t = if startsTwoByte (s.romRead s.P) then (s.setP s.nextP).setP (s.setP s.nextP).nextP
              else s.setP s.nextP := by
  unfold State.fetch at h
  simp only at h
  split at h
  · rename_i j rest hd
    obtain ⟨rfl, rfl⟩ : j = i ∧ _ = t := by simpa using h
    exact ⟨rest, hd, rfl⟩
  · cases h

/-- RESET and power-up override whatever the step would have done (R330). -/
theorem step_of_overridden (h : s.overridden = true) : step s = .next s.overriddenStep := if_pos h

/-- Where nothing overrides it, a step is fetch, skip logic, execution and what follows (R134). -/
theorem step_of_not_overridden (h : s.overridden = false) : step s = s.fetchAndRun :=
  if_neg (by simp [h])

/-- Where nothing overrides it, a step that goes on fetched an instruction and either passed over it or
executed it. -/
theorem State.fetchAndRun_next (h : s.fetchAndRun = .next t) :
    ∃ i s1, s.fetch = .ok (i, s1) ∧
      ((s1.passesOver i = true ∧ t = s1.passOver.finish i false) ∨
        (s1.passesOver i = false ∧
          ∃ s2, exec i (s1.beginInstr i) = .next s2 ∧ t = s2.finish i true)) := by
  unfold State.fetchAndRun at h
  split at h
  · rename_i i s1 hf
    refine ⟨i, s1, hf, ?_⟩
    unfold State.stepWith at h
    split at h
    · rename_i hp
      cases h
      exact .inl ⟨hp, rfl⟩
    · rename_i hp
      split at h
      · rename_i s2 he
        cases h
        exact .inr ⟨by simpa using hp, s2, he, rfl⟩
      · cases h
      · cases h
  · cases h

/-- A step that goes on was overridden, or fetched an instruction and either passed over it or executed
it. -/
theorem step_next (h : step s = .next t) :
    (s.overridden = true ∧ t = s.overriddenStep) ∨
      (s.overridden = false ∧
        ∃ i s1, s.fetch = .ok (i, s1) ∧
          ((s1.passesOver i = true ∧ t = s1.passOver.finish i false) ∨
            (s1.passesOver i = false ∧
              ∃ s2, exec i (s1.beginInstr i) = .next s2 ∧ t = s2.finish i true))) := by
  cases ho : s.overridden with
  | true =>
    rw [step_of_overridden ho] at h
    cases h
    exact .inl ⟨rfl, rfl⟩
  | false =>
    rw [step_of_not_overridden ho] at h
    exact .inr ⟨rfl, State.fetchAndRun_next h⟩

/-- A step faults only where nothing overrides it, in its fetch or in the executed instruction. -/
theorem step_fault {f : Fault} (h : step s = .fault f) :
    s.overridden = false ∧
      (s.fetch = .error f ∨
        ∃ i s1, s.fetch = .ok (i, s1) ∧ s1.passesOver i = false
          ∧ exec i (s1.beginInstr i) = .fault f) := by
  cases ho : s.overridden with
  | true =>
    rw [step_of_overridden ho] at h
    cases h
  | false =>
    rw [step_of_not_overridden ho] at h
    refine ⟨rfl, ?_⟩
    unfold State.fetchAndRun at h
    split at h
    · rename_i i s1 hf
      unfold State.stepWith at h
      split at h
      · cases h
      · rename_i hp
        split at h
        · cases h
        · rename_i f' he
          cases h
          exact .inr ⟨i, s1, hf, by simpa using hp, he⟩
        · cases h
    · rename_i f' hf
      cases h
      exact .inl hf

end Sys2Proof.Machine
end

