-- ==== Sys2Proof/Tests/Slice0.lean ====
section
/-! SUPPORT. Tests: ill-formed terms refused, the decoding of every constructor from words written out from
the spec's encodings, one-step vectors of 95_test_vectors.md (the number of the vector is in the comment),
and for every obligation with hypotheses a witness that meets them. -/

namespace Sys2Proof.Tests

open Sys2Proof Sys2Proof.Machine

/-! Small states. -/

/-- A step in which every pin reads 0, nothing is acknowledged and nothing happens. -/
def quiet : Inputs :=
  { pinIN := 0, pinG := 0, pinL := 0, pinCKO := 0, si0 := 0, si1 := 0, acknowledge := false, events := [] }

/-- A COP420 at `p` with these ROM words and a quiet world; T is reset so that a wrap shows. -/
def codeAt (p : RomAddr) (rom : List (Nat × Byte)) : State :=
  { State.reset with P := p, rom := rom, script := [quiet], T := false }

/-- A COP420 at 0 with one or two bytes there. -/
def code2 (b c : Byte) : State := codeAt 0 (Memory.cons 0 b (Memory.cons 1 c []))
def code1 (b : Byte) : State := code2 b 0

/-- The same state with these events in the entry of its next step. -/
def withEvents (s : State) (es : List Event) : State := { s with script := [{ quiet with events := es }] }

/-- The digit at B. -/
def withM (s : State) (v : Nibble) : State := s.setM v

/-- What a step leaves, seen through `f`; `none` where the step does not go on. -/
def view {α : Type} (s : State) (f : State → α) : Option α :=
  match step s with
  | .next t => some (f t)
  | .fault _ => none
  | .refused _ => none

/-- Why a step stops; `none` where it goes on. -/
def stops (s : State) : Option Fault :=
  match step s with
  | .next _ => none
  | .fault f => some f
  | .refused _ => none

/-- The part `v` with no option selected; the COP411L has no CKO pin. -/
def partOf (v : Variant) : Part :=
  { variant := v, cko := if v = .cop411L then .noPin else .crystalOutput, microbus := false }

/-! Well-formedness: one ill-formed term for each check. -/

theorem test_aisc_zero_ill_formed : (Instr.aisc 0).wf = false := by decide
theorem test_jp7_own_page_end_ill_formed : (Instr.jp7 0x3F).wf = false := by decide
theorem test_jp7_all_ones_ill_formed : (Instr.jp7 0x7F).wf = false := by decide
theorem test_jp6_all_ones_ill_formed : (Instr.jp6 0x3F).wf = false := by decide
theorem test_jsrp_all_ones_ill_formed : (Instr.jsrp 0x3F).wf = false := by decide
theorem test_lbi1_one_ill_formed : (Instr.lbi1 0 1).wf = false := by decide
theorem test_lbi1_eight_ill_formed : (Instr.lbi1 3 8).wf = false := by decide
theorem test_jp7_outside_subroutine_pages_does_not_fit : (Instr.jp7 5).fitsPage 1 = false := by decide
theorem test_jsrp_in_page_two_does_not_fit : (Instr.jsrp 5).fitsPage 2 = false := by decide
theorem test_part_cop421_microbus_ill_formed :
    Part.wf { variant := .cop421, cko := .crystalOutput, microbus := true } = false := by decide
theorem test_part_cop402M_without_microbus_ill_formed : (partOf .cop402M).wf = false := by decide
theorem test_part_cop410L_input_cko_ill_formed :
    Part.wf { variant := .cop410L, cko := .generalInput, microbus := false } = false := by decide
/-- R275: the COP411L lacks the CKO pin and with it every CKO function. -/
theorem test_part_cop411L_has_no_cko : (partOf .cop411L).wf = true ∧
    ∀ k ∈ [CkoOption.crystalOutput, .generalInput, .ramSupply, .syncInput],
      Part.wf { variant := .cop411L, cko := k, microbus := false } = false := by decide
theorem test_part_cop420_without_cko_ill_formed :
    Part.wf { variant := .cop420, cko := .noPin, microbus := false } = false := by decide
theorem test_memory_out_of_order_ill_formed : Memory.wf [(2, 1#4), (1, 1#4)] = false := by decide
theorem test_memory_listing_zero_ill_formed : Memory.wf [(2, 0#4)] = false := by decide

/-! Decoding: every constructor from its word, written out bit by bit from R98 to R101. -/

/-- Whether bytes read in `page` of a part are exactly the instruction `i`. -/
def reads (page : Nibble) (bytes : List Byte) (i : Instr) : Bool :=
  match decode Part.cop420 page bytes with
  | .ok (j, []) => j == i
  | .ok (_, _ :: _) => false
  | .error _ => false

theorem test_decode_arithmetic : ∀ p ∈ ([
    (0b00110000, .asc), (0b00110001, .add), (0b01001010, .adt), (0b01011111, .aisc 15),
    (0b00010000, .casc), (0b00000000, .clra), (0b01000000, .comp), (0b01000100, .nop),
    (0b00110010, .rc), (0b00100010, .sc), (0b00000010, .xor)] : List (Byte × Instr)),
    reads 0 [p.1] p.2 = true := by decide

theorem test_decode_input_output : ∀ p ∈ ([
    (0b00101010, .ing), (0b00101000, .inin), (0b00101001, .inil), (0b00101110, .inl),
    (0b00111110, .obd), (0b01010101, .ogi 5), (0b00111010, .omg)] : List (Byte × Instr)),
    reads 0 [0b00110011, p.1] p.2 = true := by decide

theorem test_decode_xas : reads 0 [0b01001111] .xas = true := by decide

theorem test_decode_transfer_one_byte : ∀ p ∈ ([
    (0, 0b11111111, .jid), (2, 0b10000101, .jp7 5), (3, 0b11100000, .jp7 0x60),
    (8, 0b11000101, .jp6 5), (0, 0b10000101, .jsrp 5), (0, 0b01001000, .ret),
    (0, 0b01001001, .retsk)] : List (Nibble × Byte × Instr)),
    reads p.1 [p.2.1] p.2.2 = true := by decide

theorem test_decode_transfer_two_byte :
    reads 0 [0b01100010, 0b00111111] (.jmp 0x23F) = true
      ∧ reads 0 [0b01101001, 0b01000000] (.jsr 0x140) = true := by decide

theorem test_decode_memory_reference_one_byte : ∀ p ∈ ([
    (0b00110101, .ld 3), (0b10111111, .lqid), (0b01001100, .rmb0), (0b01000101, .rmb1),
    (0b01000010, .rmb2), (0b01000011, .rmb3), (0b01001101, .smb0), (0b01000111, .smb1),
    (0b01000110, .smb2), (0b01001011, .smb3), (0b01110111, .stii 7), (0b00010110, .x 1),
    (0b00110111, .xds 3), (0b00100100, .xis 2)] : List (Byte × Instr)),
    reads 0 [p.1] p.2 = true := by decide

theorem test_decode_memory_reference_two_byte : ∀ p ∈ ([
    (0b00110011, 0b00111100, .camq), (0b00110011, 0b00101100, .cqma),
    (0b00100011, 0b00101100, .ldd 2 12), (0b00100011, 0b10111111, .xad 3 15)] :
      List (Byte × Byte × Instr)),
    reads 0 [p.1, p.2.1] p.2.2 = true := by decide

theorem test_decode_register_reference : ∀ p ∈ ([
    ([0b01010000], .cab), ([0b01001110], .cba), ([0b00001000], .lbi1 0 9), ([0b00001111], .lbi1 0 0),
    ([0b00101011], .lbi1 2 12), ([0b00110011, 0b10100001], .lbi2 2 1),
    ([0b00110011, 0b01101101], .lei 13), ([0b00010010], .xabr)] : List (List Byte × Instr)),
    reads 0 p.1 p.2 = true := by decide

theorem test_decode_test : ∀ p ∈ ([
    ([0b00100000], .skc), ([0b00100001], .ske), ([0b00110011, 0b00000001], .skgbz0),
    ([0b00110011, 0b00010001], .skgbz1), ([0b00110011, 0b00000011], .skgbz2),
    ([0b00110011, 0b00010011], .skgbz3), ([0b00110011, 0b00100001], .skgz),
    ([0b00000001], .skmbz0), ([0b00010001], .skmbz1), ([0b00000011], .skmbz2),
    ([0b00010011], .skmbz3), ([0b01000001], .skt)] : List (List Byte × Instr)),
    reads 0 p.1 p.2 = true := by decide

/-- LQID and JID keep their bytes in the subroutine pages (R107). -/
theorem test_decode_lqid_jid_in_page_two :
    reads 2 [0xBF] .lqid = true ∧ reads 3 [0xFF] .jid = true := by decide

/-- Table words at address 0 (R113). -/
theorem test_table_words :
    decodeTableWord 8 0x30 = some .asc ∧ decodeTableWord 16 0x33A1 = some (.lbi2 2 1)
      ∧ decodeTableWord 16 0x623F = some (.jmp 0x23F) ∧ decodeTableWord 8 0x64 = none := by decide

/-- X1, X2, X3, X4. -/
theorem test_illegal_encodings :
    stops (code1 0x64) = some .illegalEncoding ∧ stops (code2 0x23 0x40) = some .illegalEncoding
      ∧ stops (code1 0x33) = some .illegalEncoding
      ∧ stops { code1 0x6C with skip := true } = some .illegalEncoding := by decide

/-! Arithmetic. -/

/-- A1. -/
theorem test_asc_carries : view (withM { code1 0x30 with A := 14 } 7) (fun t => (t.A, t.C, t.skip, t.P))
    = some (5, 1, true, 1) := by decide
/-- A5. -/
theorem test_asc_no_carry : view (withM { code1 0x30 with A := 8 } 7) (fun t => (t.A, t.C, t.skip))
    = some (15, 0, false) := by decide
/-- A7. -/
theorem test_add_keeps_carry : view (withM { code1 0x31 with A := 9, C := 1 } 9)
    (fun t => (t.A, t.C, t.skip)) = some (2, 1, false) := by decide
/-- A8. -/
theorem test_adt : view { code1 0x4A with A := 13, C := 1 } (fun t => (t.A, t.C, t.skip))
    = some (7, 1, false) := by decide
/-- A11. -/
theorem test_aisc_skips : view { code1 0x55 with A := 11, C := 1 } (fun t => (t.A, t.C, t.skip))
    = some (0, 1, true) := by decide
/-- A14. -/
theorem test_aisc_no_skip : view { code1 0x5F with A := 0 } (fun t => (t.A, t.skip))
    = some (15, false) := by decide
/-- E2, first line. -/
theorem test_casc_no_borrow : view (withM { code1 0x10 with A := 3, C := 1 } 8)
    (fun t => (t.A, t.C, t.skip)) = some (5, 1, true) := by decide
/-- E2, second line. -/
theorem test_casc_borrow : view (withM { code1 0x10 with A := 8, C := 1 } 3)
    (fun t => (t.A, t.C, t.skip)) = some (11, 0, false) := by decide
/-- A18. -/
theorem test_clra : view { codeAt 0 [] with A := 9, C := 1 } (fun t => (t.A, t.C)) = some (0, 1) := by decide
/-- E4. -/
theorem test_comp : view { code1 0x40 with A := 6 } State.A = some 9 := by decide
/-- A20. -/
theorem test_nop : view (code1 0x44) (fun t => (t.P, t.A, t.TC)) = some (1, 0, 1) := by decide
/-- A21. -/
theorem test_rc : view { code1 0x32 with C := 1 } State.C = some 0 := by decide
/-- A22. -/
theorem test_sc : view { code1 0x22 with SKL := 0 } (fun t => (t.C, t.SKL)) = some (1, 0) := by decide
/-- A23. -/
theorem test_xor : view (withM { code1 0x02 with A := 4 } 6) (fun t => (t.A, t.M)) = some (2, 6) := by decide

/-! Input and output. -/

/-- I1. -/
theorem test_ing : view { code2 0x33 0x2A with G := 15, script := [{ quiet with pinG := 0b1010 }] }
    (fun t => (t.A, t.G, t.P)) = some (0b1010, 15, 2) := by decide
/-- I2. -/
theorem test_inin : view { code2 0x33 0x28 with script := [{ quiet with pinIN := 0b0110 }] } State.A
    = some 0b0110 := by decide
/-- I3. -/
theorem test_inil : view { code2 0x33 0x29 with IL3 := 1 } (fun t => (t.A, t.IL3, t.IL0))
    = some (0b1100, 0, 0) := by decide
/-- I4. -/
theorem test_inil_cko : view { code2 0x33 0x29 with
    IL0 := 1, part := { Part.cop420 with cko := .generalInput } } (fun t => (t.A, t.IL3, t.IL0))
    = some (0b0001, 0, 0) := by decide
/-- I6. -/
theorem test_inl : view { code2 0x33 0x2E with B := 0x12, script := [{ quiet with pinL := 0b10010110 }] }
    (fun t => (t.ram, t.A, t.B)) = some ([(0x12, 0b1001)], 0b0110, 0x12) := by decide
/-- I7. -/
theorem test_obd : view { code2 0x33 0x3E with B := 0x29 } State.D = some 9 := by decide
/-- I8. -/
theorem test_ogi : view (code2 0x33 0x55) State.G = some 5 := by decide
/-- I9. -/
theorem test_omg : view (withM (code2 0x33 0x3A) 12) State.G = some 12 := by decide
/-- I10. -/
theorem test_xas_counting : view { code1 0x4F with EN := 1, A := 3, SIO := 10 }
    (fun t => (t.A, t.SIO, t.SKL)) = some (10, 3, 0) := by decide
/-- I11. -/
theorem test_xas_shifting : view { code1 0x4F with A := 3, SIO := 10, C := 1, SKL := 0 }
    (fun t => (t.A, t.SIO, t.SKL)) = some (10, 6, 1) := by decide

/-! Transfer of control. -/

/-- T12. -/
theorem test_jid : view (withM { codeAt 0x123 [(0x123, 0xFF), (0x14B, 0x9C)] with A := 4 } 11)
    (fun t => (t.P, t.A, t.TC)) = some (0x19C, 4, 2) := by decide
/-- T13. -/
theorem test_jid_next_block : view (withM (codeAt 0x0FF [(0x0FF, 0xFF), (0x102, 0x34)]) 2) State.P
    = some 0x134 := by decide
/-- T10. -/
theorem test_jmp : view (codeAt 0x010 [(0x010, 0x62), (0x011, 0x3F)]) State.P = some 0x23F := by decide
/-- T11. -/
theorem test_jmp_across_the_top : view (codeAt 0x3FF [(0x000, 0x23), (0x3FF, 0x61)]) State.P
    = some 0x123 := by decide
/-- T3. -/
theorem test_jp7 : view (codeAt 0x090 [(0x090, 0xE0)]) State.P = some 0x0E0 := by decide
/-- T4. -/
theorem test_jp7_from_last_word_of_page_one : view (codeAt 0x07F [(0x07F, 0x85)]) (fun t => (t.P, t.SA))
    = some (0x085, 0) := by decide
/-- T1. -/
theorem test_jp6 : view (codeAt 0x210 [(0x210, 0xC5)]) State.P = some 0x205 := by decide
/-- T6. -/
theorem test_jp6_rolls_over : view (codeAt 0x03F [(0x03F, 0xC1)]) State.P = some 0x041 := by decide
/-- T7. -/
theorem test_jsrp : view { codeAt 1 [(1, 0x80)] with SA := 0x111, SB := 0x222, SC := 0x333 }
    (fun t => (t.P, t.SA, t.SB, t.SC)) = some (0x080, 2, 0x111, 0x222) := by decide
/-- T5. -/
theorem test_jsrp_from_last_word_of_page_three : view (codeAt 0x0FF [(0x0FF, 0x85)]) (fun t => (t.P, t.SA))
    = some (0x085, 0x100) := by decide
/-- T9. -/
theorem test_jsr : view { codeAt 0x020 [(0x020, 0x69), (0x021, 0x40)] with SA := 0x111, SB := 0x222 }
    (fun t => (t.P, t.SA, t.SB, t.SC)) = some (0x140, 0x022, 0x111, 0x222) := by decide
/-- T20. -/
theorem test_jsr_skipped : view { codeAt 0x020 [(0x020, 0x69), (0x021, 0x40)] with skip := true }
    (fun t => (t.P, t.SA, t.skip, t.TC)) = some (0x022, 0, false, 2) := by decide
/-- T15. -/
theorem test_ret : view { code1 0x48 with SA := 0x002, SB := 0x155, SC := 0x3A0 }
    (fun t => (t.P, t.SA, t.SB, t.SC, t.skip)) = some (0x002, 0x155, 0x3A0, 0x3A0, false) := by decide
/-- T16. -/
theorem test_ret_restores_skip : view { code1 0x48 with SA := 0x002, skipSaved := true }
    (fun t => (t.P, t.skip, t.skipSaved)) = some (0x002, true, false) := by decide
/-- T17. -/
theorem test_retsk : view { code1 0x49 with SA := 0x002 } (fun t => (t.P, t.skip)) = some (0x002, true) := by
  decide
/-- T18. -/
theorem test_retsk_faults : stops { code1 0x49 with skipSaved := true } = some .retskWithSavedSkip := by
  decide

/-! Memory reference. -/

/-- M1. -/
theorem test_camq : view (withM { code2 0x33 0x3C with A := 6 } 13) State.Q = some 0x6D := by decide
/-- M2. -/
theorem test_cqma : view { code2 0x33 0x2C with Q := 0x6D, B := 0x23 } (fun t => (t.ram, t.A, t.Q))
    = some ([(0x23, 6)], 13, 0x6D) := by decide
/-- M3. -/
theorem test_ld : view (withM { code1 0x35 with B := 0x2C } 9) (fun t => (t.A, t.B)) = some (9, 0x1C) := by
  decide
/-- M4. -/
theorem test_ldd : view { code2 0x23 0x2C with B := 0x11, ram := [(0x2C, 9)] } (fun t => (t.A, t.B, t.P))
    = some (9, 0x11, 2) := by decide
/-- M6. -/
theorem test_lqid : view (withM { codeAt 0x010 [(0x010, 0xBF), (0x035, 0x6D)] with
    A := 3, SA := 0x111, SB := 0x222, SC := 0x333 } 5) (fun t => (t.Q, t.P, t.SA, t.SB, t.SC, t.TC))
    = some (0x6D, 0x011, 0x111, 0x222, 0x222, 2) := by decide
/-- M7. -/
theorem test_lqid_next_block : view (withM (codeAt 0x1FF [(0x101, 0xCD), (0x1FF, 0xBF), (0x201, 0xAB)]) 1)
    (fun t => (t.Q, t.P)) = some (0xAB, 0x200) := by decide
/-- R206: each bit. -/
theorem test_rmb0 : view (withM (code1 0x4C) 15) State.M = some 0b1110 := by decide
theorem test_rmb1 : view (withM (code1 0x45) 15) State.M = some 0b1101 := by decide
/-- M8. -/
theorem test_rmb2 : view (withM (code1 0x42) 15) State.M = some 0b1011 := by decide
theorem test_rmb3 : view (withM (code1 0x43) 15) State.M = some 0b0111 := by decide
/-- M10, and R207 for each bit. -/
theorem test_smb0 : view (withM (code1 0x4D) 8) State.M = some 0b1001 := by decide
theorem test_smb1 : view (code1 0x47) State.M = some 0b0010 := by decide
theorem test_smb2 : view (code1 0x46) State.M = some 0b0100 := by decide
/-- M9. -/
theorem test_smb3 : view (code1 0x4B) State.M = some 0b1000 := by decide
/-- M11. -/
theorem test_stii : view { code1 0x77 with B := 0x0F } (fun t => (t.ram, t.B, t.skip))
    = some ([(0x0F, 7)], 0x00, false) := by decide
/-- M12. -/
theorem test_x : view (withM { code1 0x16 with A := 2, B := 0x14 } 9) (fun t => (t.A, t.ram, t.B))
    = some (9, [(0x14, 2)], 0x04) := by decide
/-- M5. -/
theorem test_xad : view { code2 0x23 0xBF with A := 4, B := 0x11, ram := [(0x3F, 9)] }
    (fun t => (t.A, t.ram, t.B)) = some (9, [(0x3F, 4)], 0x11) := by decide
/-- M13. -/
theorem test_xds_skips : view (withM { code1 0x37 with A := 5, B := 0x20 } 8)
    (fun t => (t.A, t.ram, t.B, t.skip)) = some (8, [(0x20, 5)], 0x1F, true) := by decide
/-- M14. -/
theorem test_xds : view (withM { code1 0x07 with A := 5, B := 0x21 } 8)
    (fun t => (t.A, t.ram, t.B, t.skip)) = some (8, [(0x21, 5)], 0x20, false) := by decide
/-- M15. -/
theorem test_xis_skips : view (withM { code1 0x04 with A := 0, B := 0x0F } 6)
    (fun t => (t.A, t.ram, t.B, t.skip)) = some (6, [], 0x00, true) := by decide
/-- M16. -/
theorem test_xis : view (withM { code1 0x24 with A := 1, B := 0x3E } 6)
    (fun t => (t.A, t.ram, t.B, t.skip)) = some (6, [(0x3E, 1)], 0x1F, false) := by decide

/-! Register reference. -/

/-- R1. -/
theorem test_cab : view { code1 0x50 with A := 9, B := 0x20, lbiChain := true } (fun t => (t.B, t.A, t.lbiChain))
    = some (0x29, 9, false) := by decide
/-- R2. -/
theorem test_cba : view { code1 0x4E with B := 0x1C } State.A = some 12 := by decide
/-- R3. -/
theorem test_lbi1 : view { code1 0x08 with B := 0x11 } (fun t => (t.B, t.lbiChain)) = some (0x09, true) := by
  decide
/-- R4. -/
theorem test_lbi1_zero : view { code1 0x0F with B := 0x11 } State.B = some 0x00 := by decide
/-- R7. -/
theorem test_lbi2 : view (code2 0x33 0xA1) (fun t => (t.B, t.P, t.lbiChain)) = some (0x21, 2, true) := by
  decide
/-- R9. -/
theorem test_lbi2_zero : view { code2 0x33 0x80 with B := 0x15 } State.B = some 0x00 := by decide
/-- R10. -/
theorem test_lei : view (code2 0x33 0x6D) State.EN = some 13 := by decide
/-- R11. -/
theorem test_xabr : view { code1 0x12 with A := 0b1110, B := 0x17 } (fun t => (t.A, t.B))
    = some (1, 0x27) := by decide

/-! Test. -/

/-- S1. -/
theorem test_skc_skips : view { code1 0x20 with C := 1 } (fun t => (t.skip, t.C)) = some (true, 1) := by decide
/-- S2. -/
theorem test_skc : view (code1 0x20) State.skip = some false := by decide
/-- S3. -/
theorem test_ske_skips : view (withM { code1 0x21 with A := 7 } 7) State.skip = some true := by decide
/-- S4. -/
theorem test_ske : view (withM { code1 0x21 with A := 7 } 6) State.skip = some false := by decide
/-- S6. -/
theorem test_skgbz0 : view { code2 0x33 0x01 with script := [{ quiet with pinG := 0b1011 }] } State.skip
    = some false := by decide
theorem test_skgbz1 : view { code2 0x33 0x11 with script := [{ quiet with pinG := 0b1101 }] } State.skip
    = some true := by decide
/-- S5. -/
theorem test_skgbz2 : view { code2 0x33 0x03 with script := [{ quiet with pinG := 0b1011 }] }
    (fun t => (t.skip, t.P)) = some (true, 2) := by decide
theorem test_skgbz3 : view { code2 0x33 0x13 with script := [{ quiet with pinG := 0b0111 }] } State.skip
    = some true := by decide
/-- S7. -/
theorem test_skgz_skips : view (code2 0x33 0x21) State.skip = some true := by decide
/-- S8. -/
theorem test_skgz : view { code2 0x33 0x21 with script := [{ quiet with pinG := 0b0100 }] } State.skip
    = some false := by decide
theorem test_skmbz0 : view (withM (code1 0x01) 0b1110) State.skip = some true := by decide
theorem test_skmbz1 : view (withM (code1 0x11) 0b1101) State.skip = some true := by decide
/-- S9. -/
theorem test_skmbz2 : view (withM (code1 0x03) 0b1011) State.skip = some true := by decide
/-- S10. -/
theorem test_skmbz3 : view (withM (code1 0x13) 0b1011) State.skip = some false := by decide
/-- S11. -/
theorem test_skt_skips : view { code1 0x41 with T := true, TC := 5 } (fun t => (t.skip, t.T, t.TC))
    = some (true, false, 6) := by decide
/-- S12. -/
theorem test_skt : view { code1 0x41 with TC := 1023 } (fun t => (t.skip, t.T, t.TC))
    = some (false, true, 0) := by decide

/-! Sequencing, interrupt and reset. -/

/-- Q1. -/
theorem test_skipped_two_byte : view { code2 0x33 0x5F with skip := true } (fun t => (t.G, t.skip, t.P, t.TC))
    = some (0, false, 2, 2) := by decide
/-- Q2, its second step. -/
theorem test_chained_lbi : view { codeAt 1 [(1, 0x1F)] with lbiChain := true } (fun t => (t.B, t.P, t.lbiChain))
    = some (0x00, 2, true) := by decide
/-- Q4, its second step: a skipped LBI starts no chain. -/
theorem test_skipped_lbi : view { codeAt 1 [(1, 0x0F)] with skip := true } (fun t => (t.skip, t.lbiChain))
    = some (false, false) := by decide
/-- Q7. -/
theorem test_P_wraps : view (codeAt 0x3FF [(0x3FF, 0x44)]) State.P = some 0 := by decide
/-- N1. -/
theorem test_interrupt_waits_for_jump : view { code1 0xC0 with
    EN := 2, irq := true, script := [{ quiet with acknowledge := true }] } (fun t => (t.P, t.EN, t.irq))
    = some (0, 2, true) := by decide
/-- N2. -/
theorem test_interrupt_entry : view { codeAt 0 [(0, 0xC1), (1, 0x44)] with
    EN := 2, irq := true, script := [{ quiet with acknowledge := true }] }
    (fun t => (t.SA, t.P, t.EN, t.irq, t.skipSaved)) = some (1, 0x0FF, 0, false, false) := by decide
/-- N3, its first step. -/
theorem test_interrupt_waits_for_lbi : view { codeAt 0 [(0, 0x0F), (1, 0x1F)] with
    EN := 2, irq := true, script := [{ quiet with acknowledge := true }] } (fun t => (t.P, t.irq))
    = some (1, true) := by decide
/-- N4. -/
theorem test_interrupt_disabled : view { code1 0x44 with
    irq := true, script := [{ quiet with acknowledge := true }] } State.P = some 1 := by decide
/-- N5. -/
theorem test_no_interrupt_without_IN : view { code1 0x44 with
    EN := 2, part := partOf .cop421, script := [{ quiet with events := [.pulseIN1 true] }] } State.irq
    = some false := by decide
/-- Z1. -/
theorem test_reset_event : view { code1 0x44 with
    A := 7, IL3 := 1, ram := [(0x25, 9)], script := [{ quiet with events := [.reset false] }] }
    (fun t => (t.P, t.A, t.ram, t.IL3)) = some (0, 0, [(0x25, 9)], 1) := by decide
/-- Z2. -/
theorem test_ten_cycle_reset : view { code1 0x44 with
    TC := 77, script := [{ quiet with events := [.reset true] }] } (fun t => (t.TC, t.T))
    = some (0, true) := by decide

/-! Witnesses: states and operands that meet an obligation's hypotheses, at the ends of their ranges. -/

/-- R330: RESET overrides an instruction in progress, here bytes that would fault and a store. -/
theorem test_reset_overrides_the_instruction_in_progress :
    stops (code1 0x64) = some .illegalEncoding ∧
    view (withEvents (codeAt 5 [(5, 0x64)]) [.reset true]) State.P = some 0 ∧
    view (withEvents (code1 0x77) []) State.ram = some [(0, 7)] ∧
    view (withEvents (code1 0x77) [.reset true]) State.ram = some [] := by decide

/-- R330, R300: RESET wins over a pending interrupt that is due and acknowledged. -/
theorem test_reset_wins_over_a_pending_interrupt :
    let s := { codeAt 5 [(5, 0x44)] with EN := 2, irq := true }
    let after (es : List Event) :=
      view { s with script := [{ quiet with acknowledge := true, events := es }] } fun t => (t.P, t.EN, t.irq)
    after [] = some (0x0FF, 0, false) ∧ after [.reset false] = some (0, 0, false)
      ∧ after [.pulseIN1 true, .reset true] = some (0, 0, false) := by decide

/-- A step that can be seen goes on. -/
theorem next_of_view {s : State} (h : (view s State.P).isSome = true) : ∃ t, step s = .next t := by
  cases hs : step s with
  | next t => exact ⟨t, rfl⟩
  | fault f => simp [view, hs] at h
  | refused r => simp [view, hs] at h

/-- A step that is seen to stop faults. -/
theorem fault_of_stops {s : State} {f : Fault} (h : stops s = some f) : step s = .fault f := by
  cases hs : step s with
  | next t => simp [stops, hs] at h
  | fault g => simpa [stops, hs] using h
  | refused r => simp [stops, hs] at h

/-- A byte list that is read as `i` decodes to `i`. -/
theorem decode_of_reads {page : Nibble} {bytes : List Byte} {i : Instr} (h : reads page bytes i = true) :
    decode Part.cop420 page bytes = .ok (i, []) := by
  unfold reads at h
  split at h
  · rename_i j hj
    rw [hj, beq_iff_eq.1 h]
  · cases h
  · cases h

theorem witness_DecodeOfEncodeIsTheInstruction : ∀ p ∈ ([
    (Part.cop420, 2, .jp7 0x7E), (Part.cop420, 3, .jp7 0), (Part.cop420, 1, .jp6 0x3E),
    (Part.cop420, 4, .jsrp 0), (Part.cop420, 0, .lbi1 3 9), (Part.cop420, 0, .lbi1 0 0),
    (Part.cop420, 0, .aisc 1), (partOf .cop421, 0, .inil), (partOf .cop410L, 0, .xad 3 15),
    (partOf .cop410L, 0, .jmp 0x1FF)] : List (Part × Nibble × Instr)),
    p.2.2.wf = true ∧ p.2.2.fitsPage p.2.1 = true ∧ p.1.has p.2.2 = true := by decide

theorem witness_DecodedBytesAreTheEncoding :
    decode Part.cop420 2 [0xFE] = .ok (.jp7 0x7E, [])
      ∧ decode (partOf .cop410L) 0 [0x61, 0xFF] = .ok (.jmp 0x1FF, []) := ⟨rfl, rfl⟩

/-- The ends of every range of illegal bytes. -/
def illegalEnds : List (Byte × Byte) :=
  [(0x64, 0), (0x67, 0), (0x6C, 0), (0x6F, 0), (0x23, 0x40), (0x23, 0x7F), (0x23, 0xC0), (0x23, 0xFF),
    (0x33, 0x00), (0x33, 0x4F), (0x33, 0x70), (0x33, 0x7F), (0x33, 0xC0)]

/-- The legal bytes beside them. -/
def legalNeighbours : List (Byte × Byte) :=
  [(0x63, 1), (0x68, 1), (0x6B, 1), (0x70, 1), (0x23, 0x3F), (0x23, 0x80), (0x23, 0xBF), (0x33, 0x01),
    (0x33, 0x50), (0x33, 0x6F), (0x33, 0x80), (0x33, 0xBF)]

/-- What the COP410L has deleted. -/
def deletedOn410 : List (Byte × Byte) :=
  [(0x10, 1), (0x4A, 1), (0x41, 1), (0x12, 1), (0x23, 0x2C), (0x23, 0xBE), (0x33, 0x2C), (0x33, 0x28),
    (0x33, 0x29), (0x33, 0x50), (0x33, 0x5F), (0x33, 0x80), (0x33, 0xBF)]

theorem witness_IllegalEncodingsAreExactlyTheListed :
    illegalEnds.all (fun p => stops (code2 p.1 p.2) == some .illegalEncoding) = true ∧
    legalNeighbours.all (fun p => (view (code2 p.1 p.2) State.P).isSome) = true ∧
    (code2 0x64 0).overridden = false ∧ State.reset.part.variant.hasIN = true := by decide

theorem witness_DeletedInstructionsFault :
    State.overridden { code2 0x10 1 with part := partOf .cop410L } = false ∧
    (partOf .cop410L).variant.isCop410 = true ∧ (partOf .cop411L).variant.isCop410 = true ∧
    deletedOn410.all (fun p =>
      stops { code2 p.1 p.2 with part := partOf .cop410L } == some .illegalEncoding) = true ∧
    (partOf .cop421).variant.hasIN = false ∧
    stops { code2 0x33 0x28 with part := partOf .cop421 } = some .illegalEncoding := by decide

/-- Executed: no chain, and in a chain an instruction that is no LBI; a two-byte one too. -/
theorem witness_StepExecutesTheDecodedInstruction :
    (∀ p ∈ ([(code1 0x30, .asc), ({ code1 0x50 with lbiChain := true }, .cab), (code1 0x08, .lbi1 0 9)] :
        List (State × Instr)),
      reads (pageOf p.1.nextP) [p.1.romRead p.1.P] p.2 = true ∧ p.1.overridden = false ∧ p.1.skip = false
        ∧ (p.1.lbiChain = true → p.2.isLbi = false)) ∧
    reads 0 [(code2 0x33 0xA1).romRead 0, (code2 0x33 0xA1).romRead 1] (.lbi2 2 1) = true := by decide

theorem witness_SkippedInstructionHasNoEffect :
    decode Part.cop420 (pageOf (code2 0x33 0x5F).nextP) [0x33, 0x5F] = .ok (.ogi 15, []) ∧
    decode Part.cop420 (pageOf (code1 0x30).nextP) [0x30, 0x00] = .ok (.asc, [0x00]) ∧
    State.overridden { code2 0x33 0x5F with skip := true } = false ∧
    ({ code2 0x33 0x5F with skip := true } : State).skip = true := ⟨rfl, rfl, rfl, rfl⟩

theorem witness_LbiChainPassesOverLbis :
    decode Part.cop420 (pageOf (code1 0x1F).nextP) [0x1F, 0x00] = .ok (.lbi1 1 0, [0x00]) ∧
    decode Part.cop420 (pageOf (code2 0x33 0xA1).nextP) [0x33, 0xA1] = .ok (.lbi2 2 1, []) ∧
    State.overridden { code1 0x1F with lbiChain := true } = false ∧
    ({ code1 0x1F with lbiChain := true } : State).skip = false ∧ (Instr.lbi1 1 0).isLbi = true
      ∧ (Instr.lbi2 2 1).isLbi = true := ⟨rfl, rfl, rfl, rfl, rfl, rfl⟩

theorem witness_CyclesDriveTimerAndSerialRegister :
    (code1 0x44).inputs.events = [] ∧ (code1 0x44).part.variant.isCop410 = false
      ∧ (partOf .cop410L).variant.isCop410 = true ∧ (code1 0x44).en0 = false
      ∧ ({ code1 0x44 with EN := 1 } : State).en0 = true := by decide

/-- Due and acknowledged, and each way of not being entered. -/
theorem witness_InterruptEnteredExactlyWhenDueAndAcknowledged :
    let s := { code1 0x44 with EN := 2, irq := true, script := [{ quiet with acknowledge := true }] }
    s.inputs.events = [] ∧ s.interruptDue .nop true = true ∧ s.inputs.acknowledge = true
      ∧ (s.finish .nop true).P = 0x0FF
      ∧ ({ s with script := [quiet] } : State).inputs.acknowledge = false
      ∧ ({ s with EN := 0 } : State).interruptDue .nop true = false
      ∧ ({ s with irq := false } : State).interruptDue .nop true = false
      ∧ ({ s with rom := [(0, 0xC1)] } : State).interruptDue (.jp6 0) true = false
      ∧ ({ s with rom := [(0, 0x1F)] } : State).interruptDue (.lbi1 0 0) false = false := by decide

theorem witness_InterruptEntrySavesAddressAndSkip : State.reset.part.variant.hasIN = true := by decide

theorem witness_RetAfterInterruptImplementsSavedSkip : State.reset.part.variant.hasIN = true := by decide

theorem witness_StepKeepsTheInvariant :
    (∀ s ∈ [codeAt 0x3FF [(0x3FF, 0x44)],
        { code1 0x48 with part := partOf .cop410L, P := 0, SA := 0x1FF, SB := 0x1FF },
        { code1 0x44 with part := partOf .cop421L }], s.Inv = true) ∧
    ∃ t, step (codeAt 0x3FF [(0x3FF, 0x44)]) = .next t := ⟨by decide, next_of_view (by decide)⟩

theorem witness_StepKeepsProgramMemoryAndPart :
    ∃ t, Host.Core.run Sys2Proof.core 1 (code1 0x30) = .next t := by
  obtain ⟨t, h⟩ := next_of_view (s := code1 0x30) (by decide)
  refine ⟨t, ?_⟩
  change (match step (code1 0x30) with
    | .next u => Host.Core.run Sys2Proof.core 0 u
    | .fault f => .fault f
    | .refused r => .refused r) = .next t
  rw [h]
  rfl

theorem witness_StepStopsOnlyForTheSpecsThreeReasons :
    step (code1 0x64) = .fault .illegalEncoding ∧
    step { code1 0x49 with skipSaved := true } = .fault .retskWithSavedSkip ∧
    step { code2 0x33 0x29 with part := partOf .cop421 } = .fault .inilNonFunctional :=
  ⟨fault_of_stops (by decide), fault_of_stops (by decide), fault_of_stops (by decide)⟩

theorem witness_OnlyTheListedInstructionsSetSkip :
    ∃ t, exec .nop (code1 0x44) = .next t ∧ Instr.nop ≠ .ret ∧ (∀ y, Instr.nop ≠ .aisc y)
      ∧ (∀ r, Instr.nop ≠ .xds r) ∧ (∀ r, Instr.nop ≠ .xis r)
      ∧ Instr.nop ∉ [.asc, .casc, .retsk, .ret, .skc, .ske, .skgbz0, .skgbz1, .skgbz2, .skgbz3, .skgz,
        .skmbz0, .skmbz1, .skmbz2, .skmbz3, .skt] := ⟨_, rfl, by decide, by decide, by decide, by decide,
          by decide⟩

theorem witness_RegistersAreWrittenOnlyByTheirInstructions :
    ∃ t, exec .nop (code1 0x44) = .next t ∧ Instr.nop ∉ [.asc, .casc, .sc, .rc, .camq, .lqid]
      ∧ (∀ y, Instr.nop ≠ .lei y) ∧ (∀ y, Instr.nop ≠ .ogi y)
      ∧ Instr.nop ∉ [.omg, .obd, .xas, .inil, .skt] := ⟨_, rfl, by decide, by decide, by decide, by decide⟩

theorem witness_ControlAndMemoryAreWrittenOnlyByTheirInstructions :
    ∃ t, exec .nop (code1 0x44) = .next t ∧ Instr.nop.isTransfer = false
      ∧ Instr.nop ∉ [.ret, .retsk, .lqid, .cqma, .inl, .rmb0, .rmb1, .rmb2, .rmb3, .smb0, .smb1, .smb2, .smb3]
      ∧ (∀ y, Instr.nop ≠ .stii y) ∧ (∀ r, Instr.nop ≠ .x r) ∧ (∀ r, Instr.nop ≠ .xds r)
      ∧ (∀ r, Instr.nop ≠ .xis r) := ⟨_, rfl, rfl, by decide, by decide, by decide, by decide, by decide⟩

/-- The two jump-shaped hypotheses of the same obligation, and the part that LQID's clause excepts. -/
theorem witness_ControlAndMemory_jumps :
    (∀ a r d, Instr.nop ≠ .jsr a ∧ Instr.nop ≠ .xad r d) ∧ (∀ a, Instr.nop ≠ .jsrp a)
      ∧ State.reset.part.variant.isCop410 = false :=
  ⟨fun _ _ _ => ⟨nofun, nofun⟩, fun _ => nofun, by decide⟩

theorem witness_TimeBaseCounterDividesBy1024 :
    State.reset.part.variant.isCop410 = false ∧ (0#10).toNat + 1023 < 1024
      ∧ (1023#10).toNat + 0 < 1024 := by decide

/-- A ten-cycle part of the table, a part that keeps its RAM (with `held` true), and one without IN pins. -/
theorem witness_ResetPulseInitialises :
    State.reset.part.variant.isCop410 = false ∧ State.reset.part.variant.hasIN = true
      ∧ State.reset.part.cko ≠ .ramSupply ∧ (partOf .cop421).variant.hasIN = false
      ∧ ({ Part.cop420 with cko := .ramSupply } : Part).wf = true
      ∧ ({ Part.cop420 with cko := .ramSupply } : Part).cko = .ramSupply
      ∧ Part.cop420.cellExists 0 = true ∧ Part.cop420.cellExists 63 = true
      ∧ (partOf .cop410L).cellExists 0x19 = true ∧ (partOf .cop410L).cellExists 0x18 = false := by decide

/-- Overridden steps: each cause alone, and one that comes last among other events. -/
theorem witness_ResetPulseInitialises_overridden :
    (∀ ev ∈ [Event.reset true, .reset false, .powerUp true, .powerUp false],
      (withEvents (code1 0x64) [.fallSI, ev]).overridden = true
        ∧ (withEvents (code1 0x64) [.fallSI, ev]).inputs.events = [.fallSI] ++ [ev]
        ∧ ev.initialises = true) ∧
    (withEvents (code1 0x64) [.fallSI, .pulseIN3]).overridden = false := by decide

theorem witness_OutsideEventsChangeTheirOwnLatch :
    State.reset.part.variant.hasIN = true ∧ (partOf .cop421).variant.hasIN = false
      ∧ ({ State.reset with EN := 1 } : State).EN[0] = true ∧ State.reset.EN[0] = false
      ∧ ({ Part.cop420 with microbus := true } : Part).wf = true
      ∧ State.reset.part.microbus = false
      ∧ (withEvents (code1 0x44) [.pulseIN3, .fallSI]).script
        = { quiet with events := [.pulseIN3, .fallSI] } :: [] := by decide

theorem witness_SerialPinsFollowEnAndSkl :
    (∀ n ∈ ([0b0000, 0b1000, 0b0001, 0b1001] : List Nibble), ∀ k ∈ ([0, 1] : List Bit),
      ({ State.reset with EN := n, SKL := k } : State).EN = n) ∧
    ({ State.reset with EN := 0b1000, SIO := 0b1000 } : State).soPin = 1 ∧
    ({ State.reset with EN := 0b0000, SIO := 0b1000 } : State).soPin = 0 ∧
    ({ State.reset with EN := 0b1001 } : State).soPin = 1 ∧
    ({ State.reset with SKL := 0 } : State).skPin = .low ∧ State.reset.skPin = .sync ∧
    ({ State.reset with EN := 0b0001 } : State).skPin = .high := by decide

/-- The L drivers on and off, without MICROBUS and with it. -/
theorem witness_SerialPins_L_drivers :
    let plain := { State.reset with Q := 0x5A, EN := 0b0100, script := [quiet] }
    let host := { plain with EN := 0, part := { Part.cop420 with microbus := true } }
    plain.part.microbus = false ∧ plain.lDriven = some 0x5A ∧
    ({ plain with EN := 0b1011 } : State).lDriven = none ∧
    host.part.microbus = true ∧ host.lDriven = some 0x5A ∧
    ({ host with EN := 0b0100, script := [{ quiet with pinIN := 0b0010 }] } : State).lDriven = none ∧
    ({ host with EN := 0b0100, script := [{ quiet with pinIN := 0b0100 }] } : State).lDriven = none := by
  decide

/-- The D and G pins of a part that bonds them all and of the COP411L, and the ready output. -/
theorem witness_SerialPins_D_G_and_ready :
    let s := { State.reset with D := 0b1101, G := 0b1010 }
    let host := { s with part := { Part.cop420 with microbus := true } }
    let small := { s with part := partOf .cop411L }
    s.part.variant ≠ .cop411L ∧ s.dPins = 0b1101 ∧ s.gPulledLow = 0b0101 ∧
    small.part.variant = .cop411L ∧ small.dPins = 0b0001 ∧ small.gPulledLow = 0b0101 ∧
    ({ small with G := 0 } : State).gPulledLow = 0b0111 ∧
    host.part.microbus = true ∧ host.ready = some 0 ∧ ({ host with G := 1 } : State).ready = some 1 ∧
    s.part.microbus = false ∧ s.ready = none := by decide

theorem witness_RamDigitsReadBackWhatWasWritten :
    State.reset.part.variant.isCop410 = false ∧ ({ State.reset with ram := [(0, 1), (63, 15)] } : State).ram.wf
      = true := by decide

/-- The ends of d = 1 to 7, the cells of digits 0, 9 and 15, and digit 8 as the one without a cell. -/
theorem witness_Cop410DigitsOneToSevenAreNineToFifteen :
    let s := { State.reset with part := partOf .cop410L }
    s.part.variant.isCop410 = true ∧ s.ram.wf = true ∧ 1 ≤ (1#4).toNat ∧ (7#4).toNat ≤ 7
      ∧ s.storeCell 0x11 = 0x19 ∧ s.storeCell 0x17 = 0x1F ∧ s.storeCell 0x19 = 0x19
      ∧ s.storeCell 0x30 = 0x30 ∧ s.noCell 0x30 = false ∧ s.noCell 0x38 = true := by decide

theorem witness_FourthPushLosesTheOldestAddress : State.reset.part.variant.isCop410 = false := by decide

/-- ADD and ADT, CASC, OGI, CQMA, LDD, XAD, SKT: the part their last clause is about. -/
theorem witness_cop410_clauses : (partOf .cop410L).variant.isCop410 = true := by decide

/-- CASC with C = 1. -/
theorem witness_CascSubtractsAndSkipsOnNoBorrow : ({ State.reset with C := 1 } : State).C = 1 := by decide

theorem witness_IngAndIninReadPins : (partOf .cop421).variant.hasIN = false := by decide

theorem witness_InilReadsAndResetsTheLatches :
    State.reset.part.variant.hasIN = true ∧ (partOf .cop421).variant.hasIN = false
      ∧ ({ partOf .cop421 with cko := .generalInput } : Part).wf = true
      ∧ (partOf .cop421).cko ≠ .generalInput := by decide

/-- INL, CQMA, RMB and SMB, STII, X and XAD, XDS and XIS: a canonical RAM. -/
theorem witness_storing_instructions :
    State.reset.ram.wf = true ∧ ({ State.reset with ram := [(0, 1), (63, 15)] } : State).ram.wf = true := by
  decide

/-- JP: the first and last address of pages 2 and 3, and their neighbours. -/
theorem witness_JpJumpsWithinThePage :
    (∀ p ∈ ([0x080, 0x0BF, 0x0C0, 0x0FF] : List RomAddr), p.toNat / 64 = 2 ∨ p.toNat / 64 = 3) ∧
    (∀ p ∈ ([0x07F, 0x100] : List RomAddr), ¬ (p.toNat / 64 = 2 ∨ p.toNat / 64 = 3)) := by decide

theorem witness_RetskPopsAndSkips :
    State.reset.skipSaved = false ∧ ({ State.reset with skipSaved := true } : State).skipSaved = true := by
  decide

end Sys2Proof.Tests
end

/-! PROOFS. The parameters of a state, which no step writes (R9, R61), through every part of the step. -/

namespace Sys2Proof.Machine

variable {s t : State} {i : Instr}

/-- The spec's parameters as a state holds them: program memory and the part (R9, R61). -/
def State.parameters (s : State) : Memory 8 × Part := (s.rom, s.part)

theorem State.parameters_eq_iff :
    t.parameters = s.parameters ↔ t.rom = s.rom ∧ t.part = s.part :=
  Prod.mk_inj

/-! The stack. The plain updates, and the operations built of them without a test, keep the parameters by
computation. -/

@[simp] theorem State.push_parameters (s : State) (v : RomAddr) :
    (s.push v).parameters = s.parameters := by
  rw [State.push_eq]
  rfl

@[simp] theorem State.popP_parameters (s : State) : s.popP.parameters = s.parameters := by
  rw [State.popP_eq]
  rfl

/-! The instructions. -/

theorem execInil_parameters (h : execInil s = .next t) : t.parameters = s.parameters := by
  unfold execInil at h
  split at h
  · cases h
    rfl
  · split at h
    · cases h
      rfl
    · cases h

theorem execRetsk_parameters (h : execRetsk s = .next t) : t.parameters = s.parameters := by
  unfold execRetsk at h
  split at h
  · cases h
  · cases h
    exact s.popP_parameters

/-- No instruction writes program memory or the part: INIL and RETSK answer by cases, the instructions
that call or return go through the stack, and every other one is plain updates. -/
theorem exec_parameters (h : exec i s = .next t) : t.parameters = s.parameters := by
  cases i
  case inil => exact execInil_parameters h
  case retsk => exact execRetsk_parameters h
  case ret =>
    cases h
    exact s.popP_parameters
  case jsr =>
    cases h
    exact s.push_parameters s.P
  case jsrp =>
    cases h
    exact s.push_parameters s.P
  case lqid =>
    cases h
    exact (State.popP_parameters _).trans (s.push_parameters s.P)
  all_goals
    cases h
    rfl

/-! The parts of the step around the instruction (R134). -/

@[simp] theorem State.beginInstr_parameters (s : State) (i : Instr) :
    (s.beginInstr i).parameters = s.parameters := rfl

theorem State.fetch_parameters (h : s.fetch = .ok (i, t)) : t.parameters = s.parameters := by
  obtain ⟨-, -, rfl⟩ := State.fetch_ok h
  split <;> rfl

@[simp] theorem State.passOver_parameters (s : State) : s.passOver.parameters = s.parameters := by
  unfold State.passOver
  split <;> rfl

@[simp] theorem State.runCycles_parameters (s : State) (inp : Inputs) (k n : Nat) :
    (s.runCycles inp k n).parameters = s.parameters := by
  rw [State.runCycles_eq]
  rfl

@[simp] theorem State.interruptCheck_parameters (s : State) (i : Instr) (executed : Bool) :
    (s.interruptCheck i executed).parameters = s.parameters := by
  unfold State.interruptCheck
  split
  · rw [State.enterInterrupt_eq]
    rfl
  · rfl

@[simp] theorem State.nextInputs_parameters (s : State) : s.nextInputs.parameters = s.parameters := rfl

@[simp] theorem State.applyEvents_parameters_eq (s : State) (es : List Event) :
    (s.applyEvents es).parameters = s.parameters := by
  obtain ⟨hrom, hpart, -⟩ := s.applyEvents_parameters es
  exact State.parameters_eq_iff.2 ⟨hrom, hpart⟩

@[simp] theorem State.finish_parameters (s : State) (i : Instr) (executed : Bool) :
    (s.finish i executed).parameters = s.parameters := by
  simp [State.finish]

/-- No step changes the parameters, whether RESET or power-up overrides it, or its instruction is passed
over or executed. -/
theorem step_parameters (h : step s = .next t) : t.parameters = s.parameters := by
  obtain ⟨-, rfl⟩ | ⟨-, i, s1, hf, ⟨-, rfl⟩ | ⟨-, s2, hx, rfl⟩⟩ := step_next h
  · simp [State.overriddenStep]
  · calc (s1.passOver.finish i false).parameters
        = s1.parameters := by simp
      _ = s.parameters := State.fetch_parameters hf
  · calc (s2.finish i true).parameters
        = s2.parameters := s2.finish_parameters i true
      _ = (s1.beginInstr i).parameters := exec_parameters hx
      _ = s1.parameters := s1.beginInstr_parameters i
      _ = s.parameters := State.fetch_parameters hf

/-! Runs, of any machine. -/

section
variable {M : Host.Core} {k : Nat} {a b : M.State}

/-- A run of `k + 1` steps that goes on is a step that goes on and a run of `k` steps from there. -/
theorem run_succ_next (h : M.run (k + 1) a = .next b) :
    ∃ c, M.step a = .next c ∧ M.run k c = .next b := by
  unfold Host.Core.run at h
  split at h
  · rename_i c hc
    exact ⟨c, hc, h⟩
  · cases h
  · cases h

/-- What every step leaves as it was, every run leaves as it was. -/
theorem run_keeps {α : Type} {f : M.State → α} (hstep : ∀ a b, M.step a = .next b → f b = f a)
    (h : M.run k a = .next b) : f b = f a := by
  induction k generalizing a with
  | zero =>
    cases h
    rfl
  | succ k ih =>
    obtain ⟨c, hc, hrun⟩ := run_succ_next h
    exact (ih hrun).trans (hstep a c hc)

end

/-- Settles O15: every step keeps the parameters, so every run does, by induction on its steps. -/
theorem stepKeepsProgramMemoryAndPart : Obligations.StepKeepsProgramMemoryAndPart :=
  fun _ _ _ h => State.parameters_eq_iff.1 (run_keeps (fun _ _ => step_parameters) h)

end Sys2Proof.Machine

/-! PROOFS. What each instruction can write (R22 to R40, R180 to R214): one case per kind of instruction, and
from it, for each register, the instructions that write it. -/

namespace Sys2Proof

/-- The instructions that store into data memory (R214). -/
def Instr.Stores (i : Instr) : Prop :=
  i ∈ [.cqma, .inl, .rmb0, .rmb1, .rmb2, .rmb3, .smb0, .smb1, .smb2, .smb3] ∨ (∃ y, i = .stii y)
    ∨ (∃ r, i = .x r) ∨ (∃ r d, i = .xad r d) ∨ (∃ r, i = .xds r) ∨ ∃ r, i = .xis r

/-- The instructions that push a return address (R184, R185). -/
def Instr.Calls (i : Instr) : Prop := (∃ a, i = .jsr a) ∨ ∃ a, i = .jsrp a

end Sys2Proof

namespace Sys2Proof.Machine

variable {s t : State} {i : Instr}

/-- What instruction `i` may have changed where it takes `s` to `t`: every field that the constructor does not
name is that of `s`. -/
inductive Writes (s t : State) (i : Instr) : Prop where
  | working (ht : t = { s with A := t.A, B := t.B, skip := t.skip })
  | carry (hi : i ∈ [.asc, .casc, .sc, .rc]) (ht : t = { s with A := t.A, C := t.C, skip := t.skip })
  | inputLatches (hi : i = .inil) (ht : t = { s with A := t.A, IL3 := t.IL3, IL0 := t.IL0 })
  | dLatch (hi : i = .obd) (ht : t = { s with D := t.D })
  | gLatch (hi : i = .omg ∨ ∃ y, i = .ogi y) (ht : t = { s with G := t.G })
  | serial (hi : i = .xas) (ht : t = { s with A := t.A, SIO := t.SIO, SKL := t.SKL })
  | qLatch (hi : i = .camq) (ht : t = { s with Q := t.Q })
  | enable (hi : ∃ y, i = .lei y) (ht : t = { s with EN := t.EN })
  | timerLatch (hi : i = .skt) (ht : t = { s with skip := t.skip, T := t.T })
  | store (hi : i.Stores) (ht : t = { s with A := t.A, B := t.B, skip := t.skip, ram := t.ram })
  | jump (hi : i.isTransfer = true) (ht : t = { s with P := t.P })
  | call (hi : i.Calls) (ht : t = { s with P := t.P, SA := t.SA, SB := t.SB, SC := t.SC })
  | pop (hi : i ∈ [.ret, .retsk]) (ht : t = { s with
      P := t.P, SA := t.SA, SB := t.SB, skip := t.skip, skipSaved := t.skipSaved })
  /-- The push and pop of LQID cancel but for the last level: SB is left holding SA where there are two
  levels, SC holding SB where there are three (R205, R269). -/
  | lookup (hi : i = .lqid) (ht : t = { s with
      Q := t.Q, SB := if s.part.variant.isCop410 then s.SA else s.SB, SC := t.SC })

theorem execInil_writes (h : execInil s = .next t) : Writes s t .inil := by
  unfold execInil at h
  split at h
  · cases h
    exact .inputLatches rfl rfl
  · split at h
    · cases h
      exact .inputLatches rfl rfl
    · cases h

theorem execRetsk_writes (h : execRetsk s = .next t) : Writes s t .retsk := by
  unfold execRetsk at h
  split at h
  · cases h
  · cases h
    rw [State.popP_eq]
    exact .pop (by decide) rfl

theorem execLqid_writes (h : execLqid s = .next t) : Writes s t .lqid := by
  cases h
  rw [State.popP_eq, State.push_eq]
  refine .lookup rfl ?_
  simp only [State.setP, State.setQ]
  split <;> rfl

/-- Every instruction that completes changed no more than `Writes` allows it. -/
theorem exec_writes (h : exec i s = .next t) : Writes s t i := by
  cases i
  case inil => exact execInil_writes h
  case retsk => exact execRetsk_writes h
  case lqid => exact execLqid_writes h
  all_goals cases h
  case asc | casc | sc | rc => exact .carry (by decide) rfl
  case obd => exact .dLatch rfl rfl
  case omg => exact .gLatch (.inl rfl) rfl
  case ogi y => exact .gLatch (.inr ⟨y, rfl⟩) rfl
  case xas => exact .serial rfl rfl
  case camq => exact .qLatch rfl rfl
  case lei y => exact .enable ⟨y, rfl⟩ rfl
  case skt => exact .timerLatch rfl rfl
  case cqma | inl | rmb0 | rmb1 | rmb2 | rmb3 | smb0 | smb1 | smb2 | smb3 | stii | x | xad | xds | xis =>
    exact .store (by simp [Instr.Stores]) rfl
  case jid | jmp | jp7 | jp6 => exact .jump rfl rfl
  case jsr a =>
    rw [State.push_eq]
    exact .call (.inl ⟨a, rfl⟩) rfl
  case jsrp a =>
    rw [State.push_eq]
    exact .call (.inr ⟨a, rfl⟩) rfl
  case ret =>
    rw [State.returnWithSavedSkip_eq]
    exact .pop (by decide) rfl
  all_goals exact .working rfl

/-! For each register, who writes it. -/

theorem exec_keeps_C (h : exec i s = .next t) (hi : i ∉ [.asc, .casc, .sc, .rc]) : t.C = s.C := by
  cases exec_writes h
  case carry hcarry _ => exact absurd hcarry hi
  all_goals rw [‹t = _›]

theorem exec_keeps_EN (h : exec i s = .next t) (hi : ∀ y, i ≠ .lei y) : t.EN = s.EN := by
  cases exec_writes h
  case enable hlei _ => exact absurd hlei (not_exists.2 hi)
  all_goals rw [‹t = _›]

theorem exec_keeps_Q (h : exec i s = .next t) (hi : i ∉ [.camq, .lqid]) : t.Q = s.Q := by
  cases exec_writes h
  case qLatch hcamq _ => exact absurd (List.mem_pair.2 (.inl hcamq)) hi
  case lookup hlqid _ => exact absurd (List.mem_pair.2 (.inr hlqid)) hi
  all_goals rw [‹t = _›]

theorem exec_keeps_G (h : exec i s = .next t) (homg : i ≠ .omg) (hogi : ∀ y, i ≠ .ogi y) : t.G = s.G := by
  cases exec_writes h
  case gLatch hi _ => exact absurd hi (not_or.2 ⟨homg, not_exists.2 hogi⟩)
  all_goals rw [‹t = _›]

theorem exec_keeps_D (h : exec i s = .next t) (hi : i ≠ .obd) : t.D = s.D := by
  cases exec_writes h
  case dLatch hobd _ => exact absurd hobd hi
  all_goals rw [‹t = _›]

theorem exec_keeps_SIO_SKL (h : exec i s = .next t) (hi : i ≠ .xas) : t.SIO = s.SIO ∧ t.SKL = s.SKL := by
  cases exec_writes h
  case serial hxas _ => exact absurd hxas hi
  all_goals
    rw [‹t = _›]
    exact ⟨rfl, rfl⟩

theorem exec_keeps_IL3_IL0 (h : exec i s = .next t) (hi : i ≠ .inil) : t.IL3 = s.IL3 ∧ t.IL0 = s.IL0 := by
  cases exec_writes h
  case inputLatches hinil _ => exact absurd hinil hi
  all_goals
    rw [‹t = _›]
    exact ⟨rfl, rfl⟩

theorem exec_keeps_T (h : exec i s = .next t) (hi : i ≠ .skt) : t.T = s.T := by
  cases exec_writes h
  case timerLatch hskt _ => exact absurd hskt hi
  all_goals rw [‹t = _›]

/-- Only the instruction cycles move the time-base counter (R40, R305). -/
theorem exec_keeps_TC (h : exec i s = .next t) : t.TC = s.TC := by
  cases exec_writes h
  all_goals rw [‹t = _›]

theorem isTransfer_of_calls (hi : i.Calls) : i.isTransfer = true := by
  obtain ⟨a, rfl⟩ | ⟨a, rfl⟩ := hi <;> rfl

theorem isTransfer_of_returns (hi : i ∈ [.ret, .retsk]) : i.isTransfer = true := by
  obtain rfl | rfl := List.mem_pair.1 hi <;> rfl

theorem exec_keeps_P (h : exec i s = .next t) (hi : i.isTransfer = false) : t.P = s.P := by
  have hno := Bool.eq_false_iff.1 hi
  cases exec_writes h
  case jump hjump _ => exact absurd hjump hno
  case call hcall _ => exact absurd (isTransfer_of_calls hcall) hno
  case pop hret _ => exact absurd (isTransfer_of_returns hret) hno
  all_goals rw [‹t = _›]

theorem exec_keeps_SA (h : exec i s = .next t) (hret : i ∉ [.ret, .retsk]) (hcall : ¬ i.Calls) :
    t.SA = s.SA := by
  cases exec_writes h
  case call hi _ => exact absurd hi hcall
  case pop hi _ => exact absurd hi hret
  all_goals rw [‹t = _›]

/-- Besides calls and returns, LQID writes SB, and only where the stack has two levels (R205, R269). -/
theorem exec_keeps_SB (h : exec i s = .next t) (hret : i ∉ [.ret, .retsk]) (hcall : ¬ i.Calls)
    (hlqid : i ≠ .lqid ∨ s.part.variant.isCop410 = false) : t.SB = s.SB := by
  cases exec_writes h
  case call hi _ => exact absurd hi hcall
  case pop hi _ => exact absurd hi hret
  case lookup hi ht =>
    have hlevels := hlqid.resolve_left (not_not.2 hi)
    rw [ht]
    simp [hlevels]
  all_goals rw [‹t = _›]

theorem exec_keeps_SC (h : exec i s = .next t) (hlqid : i ≠ .lqid) (hcall : ¬ i.Calls) : t.SC = s.SC := by
  cases exec_writes h
  case call hi _ => exact absurd hi hcall
  case lookup hi _ => exact absurd hi hlqid
  all_goals rw [‹t = _›]

theorem exec_keeps_ram (h : exec i s = .next t) (hi : ¬ i.Stores) : t.ram = s.ram := by
  cases exec_writes h
  case store hstore _ => exact absurd hstore hi
  all_goals rw [‹t = _›]

theorem not_calls (hjsr : ∀ a, i ≠ .jsr a) (hjsrp : ∀ a, i ≠ .jsrp a) : ¬ i.Calls :=
  not_or.2 ⟨not_exists.2 hjsr, not_exists.2 hjsrp⟩

/-- Settles O18: register by register, from what `exec_writes` allows each instruction. -/
theorem registersAreWrittenOnlyByTheirInstructions :
    Obligations.RegistersAreWrittenOnlyByTheirInstructions :=
  fun _ _ _ h => ⟨exec_keeps_C h, exec_keeps_EN h, exec_keeps_Q h, exec_keeps_G h, exec_keeps_D h,
    exec_keeps_SIO_SKL h, exec_keeps_IL3_IL0 h, exec_keeps_T h, exec_keeps_TC h⟩

/-- Settles O19: P, each level of the stack and data memory, from what `exec_writes` allows each
instruction. -/
theorem controlAndMemoryAreWrittenOnlyByTheirInstructions :
    Obligations.ControlAndMemoryAreWrittenOnlyByTheirInstructions := by
  intro i s t h
  refine ⟨exec_keeps_P h, fun hret hjsr hjsrp => ?_,
    fun hlqid hjsr hjsrp => exec_keeps_SC h hlqid (not_calls hjsr hjsrp),
    fun hfixed hstii hx hxad hxds hxis => exec_keeps_ram h ?_⟩
  · have hcall := not_calls hjsr hjsrp
    exact ⟨exec_keeps_SA h hret hcall, exec_keeps_SB h hret hcall⟩
  · rintro (hi | ⟨y, hi⟩ | ⟨r, hi⟩ | ⟨r, d, hi⟩ | ⟨r, hi⟩ | ⟨r, hi⟩)
    · exact hfixed hi
    · exact hstii y hi
    · exact hx r hi
    · exact hxad r d hi
    · exact hxds r hi
    · exact hxis r hi

end Sys2Proof.Machine

/-! PROOFS. The time-base counter (R40, R305): a tick below the wrap, the tick that wraps, and 1024 ticks,
which wrap once. -/

namespace Sys2Proof.Machine

@[simp] theorem State.setTC_setTC (s : State) (v w : BitVec 10) : (s.setTC v).setTC w = s.setTC w := rfl

theorem State.tickTimeBase_below_wrap (s : State) (hpart : s.part.variant.isCop410 = false)
    (htc : s.TC ≠ 1023) : s.tickTimeBase = s.setTC (s.TC + 1) := by
  rw [State.tickTimeBase, if_neg (by simp [hpart]), if_neg htc]

theorem State.tickTimeBase_at_wrap (s : State) (hpart : s.part.variant.isCop410 = false)
    (htc : s.TC = 1023) : s.tickTimeBase = (s.setTC 0).setT true := by
  rw [State.tickTimeBase, if_neg (by simp [hpart]), if_pos htc]

/-- Ticks that do not reach the wrap only advance the counter. -/
theorem State.tickTimeBase_iterate_below_wrap (s : State) (hpart : s.part.variant.isCop410 = false)
    (k : Nat) (hk : s.TC.toNat + k < 1024) :
    State.tickTimeBase^[k] s = s.setTC (s.TC + BitVec.ofNat 10 k) := by
  induction k with
  | zero => simp [State.setTC]
  | succ k ih =>
    have htc : s.TC + BitVec.ofNat 10 k ≠ 1023 := by bv_omega
    have hsum : s.TC + BitVec.ofNat 10 k + 1 = s.TC + BitVec.ofNat 10 (k + 1) := by bv_omega
    rw [Function.iterate_succ_apply', ih (by omega),
      (s.setTC (s.TC + BitVec.ofNat 10 k)).tickTimeBase_below_wrap hpart htc,
      State.setTC_TC, hsum, State.setTC_setTC]

/-- From any value the counter reaches 1023, wraps to 0 with T set, and comes back to that value. -/
theorem State.tickTimeBase_iterate_period (s : State) (hpart : s.part.variant.isCop410 = false) :
    State.tickTimeBase^[1024] s = s.setT true := by
  have hlt := s.TC.isLt
  have hlast : s.TC + BitVec.ofNat 10 (1023 - s.TC.toNat) = 1023 := by bv_omega
  have hback : 0 + BitVec.ofNat 10 s.TC.toNat = s.TC := by simp
  calc State.tickTimeBase^[1024] s
      = State.tickTimeBase^[s.TC.toNat + (1 + (1023 - s.TC.toNat))] s := by
        congr 1
        omega
    _ = State.tickTimeBase^[s.TC.toNat] (s.setTC 1023).tickTimeBase := by
        rw [Function.iterate_add_apply, Function.iterate_add_apply,
          s.tickTimeBase_iterate_below_wrap hpart _ (by omega), hlast, Function.iterate_one]
    _ = State.tickTimeBase^[s.TC.toNat] ((s.setTC 0).setT true) := by
        rw [(s.setTC 1023).tickTimeBase_at_wrap hpart rfl, State.setTC_setTC]
    _ = ((s.setTC 0).setT true).setTC (0 + BitVec.ofNat 10 s.TC.toNat) :=
        ((s.setTC 0).setT true).tickTimeBase_iterate_below_wrap hpart _ (by simpa using hlt)
    _ = s.setT true := by
        rw [hback]
        rfl

/-- Settles O20: by induction on the ticks below the wrap, and because 1024 ticks hold the wrap exactly
once. -/
theorem timeBaseCounterDividesBy1024 : Obligations.TimeBaseCounterDividesBy1024 :=
  fun s hpart => ⟨s.tickTimeBase_iterate_below_wrap hpart, s.tickTimeBase_iterate_period hpart⟩

end Sys2Proof.Machine

/-! PROOFS. The output pins (R30, R32, R46, R275, R310, R311, R317, R318), one lemma per pin and row of its
table. -/

namespace Sys2Proof.Machine

theorem extractLsb'_one_eq_ofBool {w : Nat} (x : BitVec w) {k : Nat} (hk : k < w) :
    x.extractLsb' k 1 = BitVec.ofBool x[k] := by
  ext j hj
  obtain rfl : j = 0 := by omega
  simp [BitVec.getLsbD_eq_getElem hk]

variable {s : State}

theorem State.soPin_shifting (h0 : s.EN[0] = false) (h3 : s.EN[3] = true) :
    s.soPin = BitVec.ofBool s.SIO[3] := by
  simp [State.soPin, State.en0, State.en3, h0, h3, extractLsb'_one_eq_ofBool]

theorem State.soPin_disabled (h0 : s.EN[0] = false) (h3 : s.EN[3] = false) : s.soPin = 0 := by
  simp [State.soPin, State.en0, State.en3, h0, h3]

theorem State.soPin_counting (h0 : s.EN[0] = true) : s.soPin = BitVec.ofBool s.EN[3] := by
  simp [State.soPin, State.en0, State.en3, h0]

theorem State.skPin_low (h : s.SKL = 0) : s.skPin = .low := if_pos h

theorem State.skPin_sync (h : s.SKL = 1) (h0 : s.EN[0] = false) : s.skPin = .sync := by
  simp [State.skPin, State.en0, h, h0]

theorem State.skPin_high (h : s.SKL = 1) (h0 : s.EN[0] = true) : s.skPin = .high := by
  simp [State.skPin, State.en0, h, h0]

theorem State.lDriven_by_enable (h : s.part.microbus = false) :
    s.lDriven = if s.EN[2] = true then some s.Q else none := by
  simp [State.lDriven, State.lDriversOn, State.en2, h]

theorem State.lDriven_by_host (h : s.part.microbus = true) :
    s.lDriven =
      if s.inputs.pinIN[1] = false ∧ s.inputs.pinIN[2] = false then some s.Q else none := by
  simp [State.lDriven, State.lDriversOn, State.pinIN, h]

theorem State.dPins_all (h : s.part.variant ≠ .cop411L) : s.dPins = s.D := if_neg h

theorem State.gPulledLow_all (h : s.part.variant ≠ .cop411L) (k : Fin 4) : s.gPulledLow[k] = !s.G[k] := by
  simp [State.gPulledLow, h]

theorem State.dPins_cop411L (h : s.part.variant = .cop411L) : s.dPins.toNat = s.D.toNat % 4 := by
  rw [State.dPins, if_pos h, BitVec.toNat_and]
  exact Nat.and_two_pow_sub_one_eq_mod _ 2

theorem State.gPulledLow_cop411L (h : s.part.variant = .cop411L) : s.gPulledLow = ~~~s.G &&& 7 := if_pos h

theorem State.gPulledLow_cop411L_three (h : s.part.variant = .cop411L) : s.gPulledLow[3] = false := by
  simp [State.gPulledLow_cop411L h]

/-- The mask of the three G pins the COP411L bonds. -/
theorem bonded_gPins : ∀ k : Fin 3, (7#4)[k.val] = true := by decide

theorem State.gPulledLow_cop411L_bonded (h : s.part.variant = .cop411L) (k : Fin 3) :
    s.gPulledLow[k.val] = !s.G[k.val] := by
  simp [State.gPulledLow_cop411L h, bonded_gPins k]

theorem State.ready_microbus (h : s.part.microbus = true) : s.ready = some (BitVec.ofBool s.G[0]) := by
  simp [State.ready, h, extractLsb'_one_eq_ofBool]

theorem State.ready_none (h : s.part.microbus = false) : s.ready = none := by
  simp [State.ready, h]

/-- Settles O24: each pin by the row of its table. -/
theorem serialPinsFollowEnAndSkl : Obligations.SerialPinsFollowEnAndSkl :=
  fun _ => ⟨State.soPin_shifting, State.soPin_disabled, State.soPin_counting, State.skPin_low,
    State.skPin_sync, State.skPin_high, State.lDriven_by_enable, State.lDriven_by_host,
    fun h => ⟨State.dPins_all h, State.gPulledLow_all h⟩,
    fun h => ⟨State.dPins_cop411L h, State.gPulledLow_cop411L_three h, State.gPulledLow_cop411L_bonded h⟩,
    State.ready_microbus, State.ready_none⟩

end Sys2Proof.Machine

/-! PROOFS. Initialization (R48, R330, R331, R333, R337): what RESET and power-up leave, and the step they
override. -/

namespace Sys2Proof.Machine

/-- Settles O14: both memories are empty, no request and no saved skip is pending, and R48's values stand in
`State.reset`. -/
theorem resetSatisfiesTheInvariant : Obligations.ResetSatisfiesTheInvariant :=
  ⟨by decide, by decide, rfl, rfl⟩

variable {s : State}

/-! The step they override. -/

theorem Event.initialises_iff (ev : Event) :
    ev.initialises = true ↔
      ev = .reset true ∨ ev = .reset false ∨ ev = .powerUp true ∨ ev = .powerUp false := by
  cases ev
  case reset ten => cases ten <;> simp [Event.initialises]
  case powerUp held => cases held <;> simp [Event.initialises]
  all_goals simp [Event.initialises]

/-- RESET and power-up override a step exactly when its script entry lists one of them (R330). -/
theorem State.overridden_iff (s : State) :
    s.overridden = true ↔ .reset true ∈ s.inputs.events ∨ .reset false ∈ s.inputs.events
      ∨ .powerUp true ∈ s.inputs.events ∨ .powerUp false ∈ s.inputs.events := by
  simp only [State.overridden, List.any_eq_true, Event.initialises_iff, and_or_left, exists_or,
    exists_eq_right]

theorem State.applyEvent_initialised (s : State) {ev : Event} (h : ev.initialises = true) :
    (s.applyEvent ev).Initialised = true := by
  cases ev
  case reset => rfl
  case powerUp => rfl
  all_goals cases h

theorem State.applyEvents_append (s : State) (es fs : List Event) :
    s.applyEvents (es ++ fs) = (s.applyEvents es).applyEvents fs :=
  List.foldl_append

/-- A step whose last event initialises ends in the cleared state, whatever came before. -/
theorem step_initialised {es : List Event} {ev : Event} (hevents : s.inputs.events = es ++ [ev])
    (hev : ev.initialises = true) : ∃ v, step s = .next v ∧ v.Initialised = true := by
  have ho : s.overridden = true := List.any_eq_true.2 ⟨ev, by simp [hevents], hev⟩
  refine ⟨s.overriddenStep, step_of_overridden ho, ?_⟩
  rw [State.overriddenStep, hevents, State.applyEvents_append]
  exact State.applyEvent_initialised _ hev

/-! What they leave. -/

theorem State.skPin_of_initialised (h : s.Initialised = true) : s.skPin = .sync := by
  obtain ⟨hEN, hSKL⟩ : s.EN = 0 ∧ s.SKL = 1 := by simp_all [State.Initialised]
  exact State.skPin_sync hSKL (by simp [hEN])

/-- SC, TC and T after initialization, on the parts that have them (R48, R333). -/
theorem State.initialise_timer (hpart : s.part.variant.isCop410 = false) (ten : Bool) :
    (s.initialise ten).SC = Config.resetSC s.free
      ∧ (s.initialise ten).TC = (if ten then 0 else Config.resetTC s.free)
      ∧ (s.initialise ten).T = (if ten then true else Config.resetT s.free) := by
  simp [State.initialise, hpart]

theorem State.powerUp_ram_kept {held : Bool} (h : s.part.cko = .ramSupply ∧ held = true) :
    (s.powerUp held).ram = s.ram := by
  simp [State.powerUp, h]

theorem State.powerUp_ram_lost {held : Bool} (h : ¬ (s.part.cko = .ramSupply ∧ held = true)) :
    (s.powerUp held).ram = powerUpCells s.part s.free 64 := by
  simp [State.powerUp, h]

theorem State.powerUp_IL_of_IN (h : s.part.variant.hasIN = true) (held : Bool) :
    (s.powerUp held).IL3 = Config.powerUpIL3 s.free ∧ (s.powerUp held).IL0 = Config.powerUpIL0 s.free :=
  ⟨if_pos h, if_pos h⟩

theorem State.powerUp_IL_of_no_IN (h : s.part.variant.hasIN = false) (held : Bool) :
    (s.powerUp held).IL3 = s.IL3 ∧ (s.powerUp held).IL0 = s.IL0 := by
  simp [State.powerUp, h]

theorem lt_of_cellExists {part : Part} {c : Nat} (h : part.cellExists c = true) : c < 64 := by
  simp only [Part.cellExists, Bool.and_eq_true, decide_eq_true_eq] at h
  exact h.1

/-- Each digit that exists holds its own free value once the contents of RAM are lost (R337). -/
theorem powerUpCells_read_of_exists (part : Part) (free : Nat) {c : Nat} (h : part.cellExists c = true) :
    (powerUpCells part free 64).read c = Config.powerUpRam free c := by
  rw [powerUpCells_read, if_pos ⟨lt_of_cellExists h, h⟩]

/-- Settles O22: RESET and power-up clear the same registers; the rest is by the part's options and, for a
step, by the events that override it. -/
theorem resetPulseInitialises : Obligations.ResetPulseInitialises := by
  intro s ten held t u
  refine ⟨?_, ⟨rfl, rfl, rfl⟩, ?_, State.powerUp_ram_kept, ?_, fun h => State.powerUp_IL_of_IN h held,
    fun h => State.powerUp_IL_of_no_IN h held, s.overridden_iff, step_of_overridden,
    fun _ _ => step_initialised⟩
  · intro v hv
    obtain rfl | rfl := List.mem_pair.1 hv
    all_goals exact ⟨rfl, rfl, rfl, rfl, rfl, rfl, rfl, State.skPin_of_initialised rfl, rfl, rfl, rfl, rfl,
      rfl, rfl, rfl, rfl⟩
  · intro hpart
    obtain ⟨htSC, htTC, htT⟩ := State.initialise_timer hpart ten
    obtain ⟨huSC, huTC, huT⟩ := State.initialise_timer hpart false
    refine ⟨?_, ?_, huTC, huT, htSC, huSC⟩
    · rintro rfl
      exact ⟨htTC, htT⟩
    · rintro rfl
      exact ⟨htTC, htT⟩
  · intro hlost
    have hram : u.ram = powerUpCells s.part s.free 64 := State.powerUp_ram_lost hlost
    rw [hram]
    exact ⟨(powerUpCells_wf _ _ _).1, fun _ => powerUpCells_read_of_exists _ _⟩

end Sys2Proof.Machine

/-! PROOFS. The stack (R33, R34, R188) and the instructions that go through it (R182, R184 to R187), with the
bytes and the pages of the calls and jumps (R94, R95). -/

namespace Sys2Proof.Machine

/-! Concatenated fields as numbers. -/

theorem append_toNat {m n : Nat} (x : BitVec m) (y : BitVec n) :
    (x ++ y).toNat = x.toNat * 2 ^ n + y.toNat := by
  rw [BitVec.toNat_append, ← Nat.shiftLeft_add_eq_or_of_lt y.isLt, Nat.shiftLeft_eq]

theorem append_eq_ofNat {m n : Nat} (x : BitVec m) (y : BitVec n) :
    x ++ y = BitVec.ofNat (m + n) (x.toNat * 2 ^ n + y.toNat) := by
  rw [← append_toNat, BitVec.ofNat_toNat, BitVec.setWidth_eq]

/-- The first byte of JMP and JSR: six bits of opcode, then a9 and a8 (R95). -/
theorem longFormat_first (opcode : BitVec 6) (a : RomAddr) :
    opcode ++ a.extractLsb' 8 2 = BitVec.ofNat 8 (opcode.toNat * 4 + a.toNat / 256) := by
  have hhigh : (a.extractLsb' 8 2).toNat = a.toNat / 256 := by
    have := a.isLt
    rw [BitVec.extractLsb'_toNat, Nat.shiftRight_eq_div_pow]
    omega
  rw [append_eq_ofNat, hhigh]
  rfl

/-- The second byte of JMP and JSR: a7 to a0 (R95). -/
theorem longFormat_second (a : RomAddr) : a.extractLsb' 0 8 = BitVec.ofNat 8 a.toNat := by
  apply BitVec.eq_of_toNat_eq
  simp

theorem pageOf_toNat (p : RomAddr) : (pageOf p).toNat = p.toNat / 64 := by
  have := p.isLt
  rw [pageOf, BitVec.extractLsb'_toNat, Nat.shiftRight_eq_div_pow]
  omega

theorem subroutinePage_eq (page : Nibble) :
    subroutinePage page = decide (page.toNat = 2 ∨ page.toNat = 3) := by
  revert page
  decide

theorem subroutinePage_pageOf (p : RomAddr) :
    subroutinePage (pageOf p) = decide (p.toNat / 64 = 2 ∨ p.toNat / 64 = 3) := by
  rw [subroutinePage_eq, pageOf_toNat]

variable {s : State}

/-! Pushes and pops, and what they come to with three levels. -/

theorem State.popP_P (s : State) : s.popP.P = s.SA := by rw [State.popP_eq]

theorem State.push_threeLevels (s : State) (h : s.part.variant.isCop410 = false) (v : RomAddr) :
    s.push v = { s with SA := v, SB := s.SA, SC := s.SB } := by
  simp [State.push_eq, h]

theorem State.popP_threeLevels (s : State) (h : s.part.variant.isCop410 = false) :
    s.popP = { s with P := s.SA, SA := s.SB, SB := s.SC } := by
  simp [State.popP_eq, h]

/-- The stack holds the last three of four pushed addresses. -/
theorem State.push_four_threeLevels (s : State) (h : s.part.variant.isCop410 = false) (a b c d : RomAddr) :
    (((s.push a).push b).push c).push d = { s with SA := d, SB := c, SC := b } := by
  simp [State.push_threeLevels, h]

/-- Settles O27: the fourth push dropped `a`, and as a pop leaves SC as it was, the third pop leaves `b` in
every level. -/
theorem fourthPushLosesTheOldestAddress : Obligations.FourthPushLosesTheOldestAddress := by
  intro s a b c d h t
  have hfull : t = { s with SA := d, SB := c, SC := b } := s.push_four_threeLevels h a b c d
  have hpop1 : t.popP = { s with P := d, SA := c, SB := b, SC := b } := by
    rw [hfull]
    exact State.popP_threeLevels _ h
  have hpop2 : t.popP.popP = { s with P := c, SA := b, SB := b, SC := b } := by
    rw [hpop1]
    exact State.popP_threeLevels _ h
  have hpop3 : t.popP.popP.popP = { s with P := b, SA := b, SB := b, SC := b } := by
    rw [hpop2]
    exact State.popP_threeLevels _ h
  have hpop4 : t.popP.popP.popP.popP.P = b := by
    rw [hpop3, State.popP_P]
  exact ⟨by rw [hpop1], by rw [hpop2], by rw [hpop3], hpop4, hpop3⟩

/-! The instructions. -/

theorem exec_jmp (a : RomAddr) (s : State) : exec (.jmp a) s = .next { s with P := a } := rfl

theorem exec_jsr (a : RomAddr) (s : State) :
    exec (.jsr a) s = .next { s with
      P := a
      SA := s.P
      SB := s.SA
      SC := if s.part.variant.isCop410 then s.SC else s.SB } := by
  change Host.Outcome.next ((s.push s.P).setP a) = _
  rw [State.push_eq]
  rfl

theorem exec_jsrp (a : BitVec 6) (s : State) : exec (.jsrp a) s = exec (.jsr (2#4 ++ a)) s := rfl

theorem exec_ret (s : State) :
    exec .ret s = .next { s with
      P := s.SA
      SA := s.SB
      SB := if s.part.variant.isCop410 then s.SB else s.SC
      skip := s.skipSaved
      skipSaved := false } :=
  congrArg Host.Outcome.next s.returnWithSavedSkip_eq

theorem exec_retsk (h : s.skipSaved = false) :
    exec .retsk s = .next { s with
      P := s.SA
      SA := s.SB
      SB := if s.part.variant.isCop410 then s.SB else s.SC
      skip := true } := by
  change execRetsk s = _
  rw [execRetsk, if_neg (by simp [h]), State.popP_eq]
  rfl

theorem exec_retsk_fault (h : s.skipSaved = true) : exec .retsk s = .fault .retskWithSavedSkip := if_pos h

/-- Settles O41: the bytes by the long format, the next states by `exec_jmp` and `exec_jsr`. -/
theorem jmpLoadsPAndJsrPushesToo : Obligations.JmpLoadsPAndJsrPushesToo := by
  intro a s
  refine ⟨?_, ?_, exec_jmp a s, exec_jsr a s⟩
  · rw [encode, longFormat_first, longFormat_second]
    rfl
  · rw [encode, longFormat_first, longFormat_second]
    rfl

/-- The byte of JSRP: 10, then the word of page 2 (R98). -/
theorem encode_jsrp (a : BitVec 6) : encode (.jsrp a) = [BitVec.ofNat 8 (0x80 + a.toNat)] := by
  rw [encode, append_eq_ofNat]
  rfl

theorem jsrp_wf (a : BitVec 6) : (Instr.jsrp a).wf = decide (a.toNat ≠ 0x3F) := by
  revert a
  decide

theorem jsrp_fitsPage (a : BitVec 6) (p : RomAddr) :
    (Instr.jsrp a).fitsPage (pageOf p) = decide (¬ (p.toNat / 64 = 2 ∨ p.toNat / 64 = 3)) := by
  rw [Instr.fitsPage, subroutinePage_pageOf, decide_not]

/-- Settles O43: JSRP is JSR to word `a` of page 2. -/
theorem jsrpCallsIntoPageTwo : Obligations.JsrpCallsIntoPageTwo := by
  intro a s
  refine ⟨encode_jsrp a, jsrp_wf a, jsrp_fitsPage a s.P, _, exec_jsr _ s, ?_, rfl, rfl, rfl, rfl⟩
  exact append_toNat 2#4 a

/-- Settles O44: `exec_ret`. -/
theorem retPopsAndRestoresSkip : Obligations.RetPopsAndRestoresSkip := ⟨rfl, exec_ret⟩

/-- Settles O45: RETSK by whether a saved skip status is pending. -/
theorem retskPopsAndSkips : Obligations.RetskPopsAndSkips :=
  ⟨rfl, fun _ => ⟨exec_retsk, exec_retsk_fault⟩⟩

end Sys2Proof.Machine

/-! PROOFS. Data memory on the parts with 64 digits (R66, R67, R200). -/

namespace Sys2Proof.Machine

/-- A RAM address names its register and its digit: no two pairs share one (R67). -/
theorem ramAddr_inj (r r' : BitVec 2) (d d' : Nibble) :
    r ++ d = r' ++ d' ↔ r = r' ∧ d = d' := by
  have hd := d.isLt
  have hd' := d'.isLt
  rw [← BitVec.toNat_inj, append_toNat, append_toNat, ← BitVec.toNat_inj, ← BitVec.toNat_inj]
  omega

variable {s : State}

/-- With 64 digits a write reaches the digit at its address and no other (R66). -/
theorem State.readDigit_writeDigit_cop420 (hpart : s.part.variant.isCop410 = false)
    (hram : s.ram.wf = true) (a b : RamAddr) (v : Nibble) :
    (s.writeDigit a v).readDigit b = if a = b then v else s.readDigit b := by
  have hpart' : (s.writeDigit a v).part.variant.isCop410 = false := hpart
  rw [State.readDigit_cop420 _ hpart', s.ram_read_writeDigit hram, s.storeCell_cop420 hpart,
    s.readDigit_cop420 hpart]
  simp only [BitVec.toNat_inj]

/-- Settles O25: distinct register and digit pairs are distinct addresses, and each address has its own
cell. -/
theorem ramDigitsReadBackWhatWasWritten : Obligations.RamDigitsReadBackWhatWasWritten := by
  intro s r r' d d' v hpart hram
  refine ⟨?_, s.readDigit_cop420 hpart s.B⟩
  rw [State.readDigit_writeDigit_cop420 hpart hram]
  simp only [ramAddr_inj]

end Sys2Proof.Machine

/-! PROOFS. The decoder and the encoder agree (R90 to R107): each byte map answers exactly the instructions
whose encoding its bytes are, so decoding and encoding undo each other. -/

namespace Sys2Proof

variable {part : Part} {page : Nibble} {i : Instr} {b b1 b2 : Byte}

/-- `bytes` are the encoding of `i`, which is well-formed and can stand in `page`. -/
structure Spells (page : Nibble) (i : Instr) (bytes : List Byte) : Prop where
  wf : i.wf = true
  fits : i.fitsPage page = true
  encode_eq : encode i = bytes

/-! The fields of a word, put together again (R92). -/

theorem eq_ofNat_of_toNat_eq {w n : Nat} {x : BitVec w} (h : x.toNat = n) : x = BitVec.ofNat w n := by
  rw [← h, BitVec.ofNat_toNat, BitVec.setWidth_eq]

theorem append_field_of_eq {m k : Nat} {x : BitVec (m + k)} {hi : BitVec m} (h : x.extractLsb' k m = hi) :
    hi ++ x.extractLsb' 0 k = x :=
  h ▸ BitVec.extractLsb'_append_extractLsb'

theorem encodeRD_fields {t : BitVec 2} (h : b.extractLsb' 6 2 = t) :
    encodeRD t (b.extractLsb' 4 2) (b.extractLsb' 0 4) = b := by
  have hupper : t ++ b.extractLsb' 4 2 = b.extractLsb' 4 4 := by
    rw [← h]
    exact BitVec.extractLsb'_append_extractLsb'_eq_extractLsb' rfl
  rw [encodeRD, hupper]
  exact append_field_of_eq rfl

/-- The top bit of a jump, as a field. -/
theorem field_of_bit7 (h7 : b[7] = true) : b.extractLsb' 7 1 = 1 := by
  rw [Machine.extractLsb'_one_eq_ofBool b (by decide), h7]
  rfl

/-- The top two bits of a jump, as a field. -/
theorem field_of_bits76 (h7 : b[7] = true) : b.extractLsb' 6 2 = 1#1 ++ BitVec.ofBool b[6] := by
  have h : b.extractLsb' 7 1 ++ b.extractLsb' 6 1 = b.extractLsb' 6 2 :=
    BitVec.extractLsb'_append_extractLsb'_eq_extractLsb' rfl
  rw [← h, field_of_bit7 h7, Machine.extractLsb'_one_eq_ofBool b (by decide)]
  rfl

/-! The operands that are not well-formed are those whose byte is another instruction's (R103, R106). -/

theorem decodeFixed_aisc_eq_none_iff :
    ∀ y : Nibble, decodeFixed (5#4 ++ y) = none ↔ (Instr.aisc y).wf = true := by decide

theorem decodeFixed_jp7_eq_none_iff :
    ∀ a : BitVec 7, decodeFixed (1#1 ++ a) = none ↔ (Instr.jp7 a).wf = true := by decide

theorem decodeFixed_jp6_eq_none_iff :
    ∀ a : BitVec 6, decodeFixed (3#2 ++ a) = none ↔ (Instr.jp6 a).wf = true := by decide

theorem decodeFixed_jsrp_eq_none_iff :
    ∀ a : BitVec 6, decodeFixed (2#2 ++ a) = none ↔ (Instr.jsrp a).wf = true := by decide

/-- The one-byte LBI codes d minus 1, which is 8 to 15 for d = 0 and 9 to 15 (R96). -/
theorem lbi1_wf_iff :
    ∀ (r : BitVec 2) (lo : Nibble), (Instr.lbi1 r (lo + 1)).wf = true ↔ lo[3] = true := by decide

/-! What the byte maps answer is spelled by the bytes they read. -/

theorem spells_of_decodeFixed (h : decodeFixed b = some i) : Spells page i [b] := by
  unfold decodeFixed at h
  split at h
  all_goals cases h
  all_goals
    rename_i hb
    rw [eq_ofNat_of_toNat_eq hb]
    exact ⟨rfl, rfl, rfl⟩

theorem spells_of_decodeRField (hb : b.extractLsb' 6 2 = 0) (h : decodeRField b = some i) :
    Spells page i [b] := by
  have hfields : encodeR (b.extractLsb' 4 2) (b.extractLsb' 0 4) = b := encodeRD_fields hb
  simp only [decodeRField, beq_iff_eq] at h
  split at h
  · rename_i h3
    cases h
    refine ⟨(lbi1_wf_iff _ _).2 (by simpa using h3), rfl, ?_⟩
    rw [encode, add_sub_cancel_right, hfields]
  · split_ifs at h with hlo hlo hlo hlo
    all_goals
      cases h
      rw [hlo] at hfields
      exact ⟨rfl, rfl, congrArg (List.cons · []) hfields⟩

theorem spells_decodeJump (hfixed : decodeFixed b = none) (h7 : b[7] = true) :
    Spells page (decodeJump page b) [b] := by
  unfold decodeJump
  split
  · rename_i hpage
    have hb : 1#1 ++ b.extractLsb' 0 7 = b := append_field_of_eq (field_of_bit7 h7)
    exact ⟨(decodeFixed_jp7_eq_none_iff _).1 (hb.symm ▸ hfixed), hpage, congrArg (List.cons · []) hb⟩
  · rename_i hpage
    have hfits : (!subroutinePage page) = true := by simpa using hpage
    split
    · rename_i h6
      have hb : 3#2 ++ b.extractLsb' 0 6 = b :=
        append_field_of_eq ((field_of_bits76 h7).trans (by rw [h6]; rfl))
      exact ⟨(decodeFixed_jp6_eq_none_iff _).1 (hb.symm ▸ hfixed), hfits, congrArg (List.cons · []) hb⟩
    · rename_i h6
      have hb : 2#2 ++ b.extractLsb' 0 6 = b :=
        append_field_of_eq ((field_of_bits76 h7).trans (by rw [Bool.eq_false_of_not_eq_true h6]; rfl))
      exact ⟨(decodeFixed_jsrp_eq_none_iff _).1 (hb.symm ▸ hfixed), hfits, congrArg (List.cons · []) hb⟩

theorem spells_of_decodeOne (h : decodeOne page b = some i) : Spells page i [b] := by
  unfold decodeOne at h
  split at h
  · rename_i j hfixed
    cases h
    exact spells_of_decodeFixed hfixed
  · rename_i hfixed
    simp only [beq_iff_eq] at h
    split_ifs at h with h7 hlow haisc hstii
    · cases h
      exact spells_decodeJump hfixed h7
    · exact spells_of_decodeRField hlow h
    · cases h
      have hb : 5#4 ++ b.extractLsb' 0 4 = b := append_field_of_eq haisc
      exact ⟨(decodeFixed_aisc_eq_none_iff _).1 (hb.symm ▸ hfixed), rfl, congrArg (List.cons · []) hb⟩
    · cases h
      exact ⟨rfl, rfl, congrArg (List.cons · []) (append_field_of_eq hstii)⟩

theorem spells_of_decode23 (h : decode23 b = some i) : Spells page i [0x23, b] := by
  simp only [decode23, beq_iff_eq] at h
  split_ifs at h with ht ht
  all_goals
    cases h
    exact ⟨rfl, rfl, congrArg ([0x23, ·]) (encodeRD_fields ht)⟩

theorem spells_of_decode33 (h : decode33 b = some i) : Spells page i [0x33, b] := by
  unfold decode33 at h
  split at h
  case h_14 =>
    simp only [beq_iff_eq] at h
    split_ifs at h with hogi hlei hlbi
    · cases h
      exact ⟨rfl, rfl, congrArg ([0x33, ·]) (append_field_of_eq hogi)⟩
    · cases h
      exact ⟨rfl, rfl, congrArg ([0x33, ·]) (append_field_of_eq hlei)⟩
    · cases h
      exact ⟨rfl, rfl, congrArg ([0x33, ·]) (encodeRD_fields hlbi)⟩
  all_goals
    rename_i hb
    cases h
    rw [eq_ofNat_of_toNat_eq hb]
    exact ⟨rfl, rfl, rfl⟩

/-- The bytes of JMP and JSR from their address (R95). -/
theorem longFormat_bytes {opcode : BitVec 6} (h : b1.extractLsb' 2 6 = opcode) :
    opcode ++ (b1.extractLsb' 0 2 ++ b2).extractLsb' 8 2 = b1
      ∧ (b1.extractLsb' 0 2 ++ b2).extractLsb' 0 8 = b2 := by
  rw [BitVec.extractLsb'_append_eq_left, BitVec.extractLsb'_append_eq_right]
  exact ⟨append_field_of_eq h, rfl⟩

theorem spells_of_decodeTwo (h : decodeTwo b1 b2 = some i) : Spells page i [b1, b2] := by
  simp only [decodeTwo, beq_iff_eq] at h
  split_ifs at h with h23 h33 hop hop
  · rw [h23]
    exact spells_of_decode23 h
  · rw [h33]
    exact spells_of_decode33 h
  all_goals
    cases h
    obtain ⟨hfirst, hsecond⟩ := longFormat_bytes (b2 := b2) hop
    exact ⟨rfl, rfl, congrArg₂ ([·, ·]) hfirst hsecond⟩

/-! What bytes spell, the byte maps answer. -/

/-- Below 0x80 the page is not asked (R94). -/
theorem decodeOne_of_low (h : b[7] = false ∧ decodeOne 0 b = some i) : decodeOne page b = some i := by
  obtain ⟨h7, hb⟩ := h
  simpa [decodeOne, h7] using hb

theorem decodeOne_of_jump (hfixed : decodeFixed b = none) (h7 : b[7] = true) :
    decodeOne page b = some (decodeJump page b) := by
  simp [decodeOne, hfixed, h7]

theorem decodeOne_of_spells (h : Spells page i [b]) : decodeOne page b = some i := by
  obtain ⟨hw, hf, he⟩ := h
  cases i
  case aisc y =>
    cases he
    exact decodeOne_of_low ((by decide : ∀ y : Nibble, (Instr.aisc y).wf = true →
      (5#4 ++ y)[7] = false ∧ decodeOne 0 (5#4 ++ y) = some (.aisc y)) y hw)
  case stii f | ld f | x f | xds f | xis f =>
    cases he
    clear hw hf
    exact decodeOne_of_low (by decide +revert)
  case lbi1 r d =>
    cases he
    exact decodeOne_of_low ((by decide : ∀ (r : BitVec 2) (d : Nibble), (Instr.lbi1 r d).wf = true →
      (encodeR r (d - 1))[7] = false ∧ decodeOne 0 (encodeR r (d - 1)) = some (.lbi1 r d)) r d hw)
  case jp7 a =>
    cases he
    have h7 : (1#1 ++ a)[7] = true := by decide +revert
    have hpage : subroutinePage page = true := hf
    rw [decodeOne_of_jump ((decodeFixed_jp7_eq_none_iff a).2 hw) h7, decodeJump, if_pos hpage,
      BitVec.extractLsb'_append_eq_right]
  case jp6 a =>
    cases he
    obtain ⟨h7, h6⟩ : (3#2 ++ a)[7] = true ∧ (3#2 ++ a)[6] = true := by decide +revert
    have hpage : ¬ subroutinePage page = true := by simpa [Instr.fitsPage] using hf
    rw [decodeOne_of_jump ((decodeFixed_jp6_eq_none_iff a).2 hw) h7, decodeJump, if_neg hpage,
      if_pos h6, BitVec.extractLsb'_append_eq_right]
  case jsrp a =>
    cases he
    obtain ⟨h7, h6⟩ : (2#2 ++ a)[7] = true ∧ ¬ (2#2 ++ a)[6] = true := by decide +revert
    have hpage : ¬ subroutinePage page = true := by simpa [Instr.fitsPage] using hf
    rw [decodeOne_of_jump ((decodeFixed_jsrp_eq_none_iff a).2 hw) h7, decodeJump, if_neg hpage,
      if_neg h6, BitVec.extractLsb'_append_eq_right]
  all_goals cases he <;> rfl

/-- The bytes after 0x23 (R99). -/
theorem decode23_encodeRD : ∀ (r : BitVec 2) (d : Nibble),
    decode23 (encodeRD 0 r d) = some (.ldd r d) ∧ decode23 (encodeRD 2 r d) = some (.xad r d) := by decide

/-- The rows after 0x33 with a y field (R100). -/
theorem decode33_y : ∀ y : Nibble,
    decode33 (5#4 ++ y) = some (.ogi y) ∧ decode33 (6#4 ++ y) = some (.lei y) := by decide

/-- The two-byte LBI (R97). -/
theorem decode33_encodeRD : ∀ (r : BitVec 2) (d : Nibble),
    decode33 (encodeRD 2 r d) = some (.lbi2 r d) := by decide

/-- A first byte with one of the opcodes of six bits is neither 0x23 nor 0x33 (R91, R95). -/
theorem ne_23_33_of_opcode (h : b.extractLsb' 2 6 = 0x18#6 ∨ b.extractLsb' 2 6 = 0x1A#6) :
    b ≠ 0x23 ∧ b ≠ 0x33 := by
  constructor
  all_goals
    rintro rfl
    exact absurd h (by decide)

theorem decodeTwo_jmp (h : b1.extractLsb' 2 6 = 0x18#6) :
    decodeTwo b1 b2 = some (.jmp (b1.extractLsb' 0 2 ++ b2)) := by
  obtain ⟨h23, h33⟩ := ne_23_33_of_opcode (.inl h)
  rw [decodeTwo, if_neg (by simpa using h23), if_neg (by simpa using h33), if_pos (by rw [h]; rfl)]

theorem decodeTwo_jsr (h : b1.extractLsb' 2 6 = 0x1A#6) :
    decodeTwo b1 b2 = some (.jsr (b1.extractLsb' 0 2 ++ b2)) := by
  obtain ⟨h23, h33⟩ := ne_23_33_of_opcode (.inr h)
  rw [decodeTwo, if_neg (by simpa using h23), if_neg (by simpa using h33), if_neg (by rw [h]; decide),
    if_pos (by rw [h]; rfl)]

theorem decodeTwo_of_encode (he : encode i = [b1, b2]) : decodeTwo b1 b2 = some i := by
  cases i
  case jmp a =>
    cases he
    rw [decodeTwo_jmp BitVec.extractLsb'_append_eq_left, BitVec.extractLsb'_append_eq_right,
      BitVec.extractLsb'_append_extractLsb']
  case jsr a =>
    cases he
    rw [decodeTwo_jsr BitVec.extractLsb'_append_eq_left, BitVec.extractLsb'_append_eq_right,
      BitVec.extractLsb'_append_extractLsb']
  case ldd r d =>
    cases he
    exact (decode23_encodeRD r d).1
  case xad r d =>
    cases he
    exact (decode23_encodeRD r d).2
  case ogi y =>
    cases he
    exact (decode33_y y).1
  case lei y =>
    cases he
    exact (decode33_y y).2
  case lbi2 r d =>
    cases he
    exact decode33_encodeRD r d
  all_goals cases he <;> rfl

theorem decodeOne_eq_some_iff : decodeOne page b = some i ↔ Spells page i [b] :=
  ⟨spells_of_decodeOne, decodeOne_of_spells⟩

theorem decodeTwo_eq_some_iff : decodeTwo b1 b2 = some i ↔ Spells page i [b1, b2] :=
  ⟨spells_of_decodeTwo, fun h => decodeTwo_of_encode h.encode_eq⟩

/-! The whole decoder. -/

theorem Part.accept_eq_ok_iff {j : Instr} {rest rest' : List Byte} :
    part.accept j rest = .ok (i, rest') ↔ j = i ∧ rest = rest' ∧ part.has i = true := by
  unfold Part.accept
  split
  · simp only [Except.ok.injEq, Prod.mk.injEq]
    constructor
    · rintro ⟨rfl, rfl⟩
      exact ⟨rfl, rfl, ‹_›⟩
    · rintro ⟨rfl, rfl, -⟩
      exact ⟨rfl, rfl⟩
  · rename_i hno
    simp only [reduceCtorEq, false_iff]
    rintro ⟨rfl, -, hhas⟩
    exact hno hhas

theorem decode_oneByte_eq_ok_iff {rest rest' : List Byte} (hb : startsTwoByte b = false) :
    decode part page (b :: rest) = .ok (i, rest') ↔
      decodeOne page b = some i ∧ part.has i = true ∧ rest = rest' := by
  simp only [decode, hb]
  cases decodeOne page b with
  | none => simp
  | some j => simp [Part.accept_eq_ok_iff]; tauto

theorem decode_twoByte_eq_ok_iff {rest rest' : List Byte} (hb : startsTwoByte b1 = true) :
    decode part page (b1 :: rest) = .ok (i, rest') ↔
      ∃ b2, rest = b2 :: rest' ∧ decodeTwo b1 b2 = some i ∧ part.has i = true := by
  simp only [decode, hb]
  cases rest with
  | nil => simp
  | cons b2 rest2 =>
    cases hd : decodeTwo b1 b2 with
    | none => simp [hd]
    | some j => simp [hd, Part.accept_eq_ok_iff]; tauto

/-- The architect's shape of an encoding (R90, R91), for every instruction. -/
theorem encodingShape (i : Instr) : Laws.EncodingShape.Statement i := by
  cases i
  case aisc y => exact Laws.EncodingShape.aisc y
  case jmp a => exact Laws.EncodingShape.jmp a
  case jp7 a => exact Laws.EncodingShape.jp7 a
  case jp6 a => exact Laws.EncodingShape.jp6 a
  case jsrp a => exact Laws.EncodingShape.jsrp a
  case jsr a => exact Laws.EncodingShape.jsr a
  case ld r => exact Laws.EncodingShape.ld r
  case stii y => exact Laws.EncodingShape.stii y
  case x r => exact Laws.EncodingShape.x r
  case xds r => exact Laws.EncodingShape.xds r
  case xis r => exact Laws.EncodingShape.xis r
  case lbi1 r d => exact Laws.EncodingShape.lbi1 r d
  all_goals exact fun _ => ⟨rfl, rfl⟩

/-- An encoding is one byte or two, as its first byte says (R90, R91). -/
theorem encode_cases (hw : i.wf = true) :
    (∃ b, encode i = [b] ∧ startsTwoByte b = false) ∨
      ∃ b1 b2, encode i = [b1, b2] ∧ startsTwoByte b1 = true := by
  obtain ⟨hlength, hhead⟩ := encodingShape i hw
  cases ht : i.twoByte with
  | false =>
    obtain ⟨b, hb⟩ := List.length_eq_one_iff.1 (by simpa [ht] using hlength)
    exact .inl ⟨b, hb, by simpa [hb, ht] using hhead⟩
  | true =>
    obtain ⟨b1, b2, hb⟩ := List.length_eq_two.1 (by simpa [ht] using hlength)
    exact .inr ⟨b1, b2, hb, by simpa [hb, ht] using hhead⟩

/-- The decoder answers an instruction exactly where the part has it and the bytes begin with its encoding. -/
theorem decode_eq_ok_iff {bytes rest : List Byte} :
    decode part page bytes = .ok (i, rest) ↔
      i.wf = true ∧ i.fitsPage page = true ∧ part.has i = true ∧ bytes = encode i ++ rest := by
  constructor
  · intro h
    cases bytes with
    | nil => cases h
    | cons b bytes =>
      cases hb : startsTwoByte b with
      | false =>
        obtain ⟨hone, hhas, rfl⟩ := (decode_oneByte_eq_ok_iff hb).1 h
        obtain ⟨hw, hf, he⟩ := decodeOne_eq_some_iff.1 hone
        exact ⟨hw, hf, hhas, by rw [he]; rfl⟩
      | true =>
        obtain ⟨b2, rfl, htwo, hhas⟩ := (decode_twoByte_eq_ok_iff hb).1 h
        obtain ⟨hw, hf, he⟩ := (decodeTwo_eq_some_iff (page := page)).1 htwo
        exact ⟨hw, hf, hhas, by rw [he]; rfl⟩
  · rintro ⟨hw, hf, hhas, rfl⟩
    obtain ⟨b, he, hb⟩ | ⟨b1, b2, he, hb⟩ := encode_cases hw
    · rw [he]
      exact (decode_oneByte_eq_ok_iff hb).2 ⟨decodeOne_of_spells ⟨hw, hf, he⟩, hhas, rfl⟩
    · rw [he]
      exact (decode_twoByte_eq_ok_iff hb).2 ⟨b2, rfl, decodeTwo_of_encode he, hhas⟩

/-- Settles O1: `decode_eq_ok_iff`, from the encoding to the instruction. -/
theorem decodeOfEncodeIsTheInstruction : Obligations.DecodeOfEncodeIsTheInstruction :=
  fun _ _ _ _ hw hf hhas => decode_eq_ok_iff.2 ⟨hw, hf, hhas, rfl⟩

/-- Settles O2: `decode_eq_ok_iff`, from the instruction to the encoding. -/
theorem decodedBytesAreTheEncoding : Obligations.DecodedBytesAreTheEncoding :=
  fun _ _ _ _ _ => decode_eq_ok_iff.1

end Sys2Proof

/-! PROOFS. The bytes that spell no instruction (R98 to R100, R108), as numbers. -/

namespace Sys2Proof

variable {part : Part} {page : Nibble} {b b1 b2 : Byte}

/-- The second bytes of R100. -/
def Follows33 (b2 : Nat) : Prop :=
  b2 ∈ [0x01, 0x03, 0x11, 0x13, 0x21, 0x28, 0x29, 0x2A, 0x2C, 0x2E, 0x3A, 0x3C, 0x3E]
    ∨ (0x50 ≤ b2 ∧ b2 ≤ 0x6F) ∨ (0x80 ≤ b2 ∧ b2 ≤ 0xBF)

/-- The byte patterns of R108. -/
def SpellsNothing (b1 b2 : Nat) : Prop :=
  (0x64 ≤ b1 ∧ b1 ≤ 0x67) ∨ (0x6C ≤ b1 ∧ b1 ≤ 0x6F)
    ∨ (b1 = 0x23 ∧ ((0x40 ≤ b2 ∧ b2 ≤ 0x7F) ∨ 0xC0 ≤ b2)) ∨ (b1 = 0x33 ∧ ¬ Follows33 b2)

/-- The instruction two fetched bytes spell, before the part is asked whether it has it. -/
def spelled (page : Nibble) (b1 b2 : Byte) : Option Instr :=
  if startsTwoByte b1 then decodeTwo b1 b2 else decodeOne page b1

theorem Part.accept_error_iff {i : Instr} {rest : List Byte} :
    (∃ e, part.accept i rest = .error e) ↔ part.has i = false := by
  cases h : part.has i <;> simp [Part.accept, h]

/-- The decoder rejects two fetched bytes exactly where they spell nothing that the part has. -/
theorem decode_pair_error_iff :
    (∃ e, decode part page [b1, b2] = .error e) ↔ ∀ i, spelled page b1 b2 = some i → part.has i = false := by
  simp only [decode, spelled]
  cases startsTwoByte b1 with
  | true => cases decodeTwo b1 b2 <;> simp [Part.accept_error_iff]
  | false => cases decodeOne page b1 <;> simp [Part.accept_error_iff]

/-! Fields and bits of a byte as numbers. -/

theorem field_beq {w k m : Nat} (x : BitVec w) (c : BitVec m) :
    (x.extractLsb' k m == c) = decide (x.toNat / 2 ^ k % 2 ^ m = c.toNat) := by
  rw [Bool.eq_iff_iff, beq_iff_eq, decide_eq_true_iff, ← BitVec.toNat_inj, BitVec.extractLsb'_toNat,
    Nat.shiftRight_eq_div_pow]

theorem bit_eq {w k : Nat} (x : BitVec w) (hk : k < w) : x[k] = decide (x.toNat / 2 ^ k % 2 = 1) := by
  rw [BitVec.getElem_eq_testBit_toNat, Nat.testBit_eq_decide_div_mod_eq]

theorem startsTwoByte_iff : startsTwoByte b = true ↔
    b.toNat = 0x23 ∨ b.toNat = 0x33 ∨ (0x60 ≤ b.toNat ∧ b.toNat ≤ 0x63)
      ∨ (0x68 ≤ b.toNat ∧ b.toNat ≤ 0x6B) := by
  have := b.isLt
  have h23 : b = 0x23#8 ↔ b.toNat = 0x23 := BitVec.toNat_inj.symm
  have h33 : b = 0x33#8 ↔ b.toNat = 0x33 := BitVec.toNat_inj.symm
  simp only [startsTwoByte, field_beq]
  simp [h23, h33]
  omega

/-! Where each byte map answers nothing. -/

theorem decodeRField_eq_none_iff : decodeRField b = none ↔ b.toNat % 16 < 4 := by
  simp only [decodeRField, field_beq, bit_eq, decide_eq_true_iff]
  split_ifs
  all_goals
    simp at *
    omega

theorem decodeOne_eq_none_iff : decodeOne page b = none ↔
    b.toNat = 0x23 ∨ b.toNat = 0x33 ∨ (0x60 ≤ b.toNat ∧ b.toNat ≤ 0x6F) := by
  have := b.isLt
  unfold decodeOne
  cases hfixed : decodeFixed b with
  | some j =>
    simp only [reduceCtorEq, false_iff]
    unfold decodeFixed at hfixed
    split at hfixed
    case h_34 => cases hfixed
    all_goals omega
  | none =>
    unfold decodeFixed at hfixed
    split at hfixed
    case h_34 =>
      simp only [field_beq, bit_eq, decide_eq_true_iff]
      split_ifs
      · simp
        omega
      · rw [decodeRField_eq_none_iff]
        simp at *
        omega
      all_goals
        simp at *
        omega
    all_goals cases hfixed

theorem decode23_eq_none_iff :
    decode23 b = none ↔ (0x40 ≤ b.toNat ∧ b.toNat ≤ 0x7F) ∨ 0xC0 ≤ b.toNat := by
  have := b.isLt
  simp only [decode23, field_beq, decide_eq_true_iff]
  split_ifs
  all_goals
    simp at *
    omega

theorem decode33_eq_none_iff : decode33 b = none ↔ ¬ Follows33 b.toNat := by
  have := b.isLt
  unfold decode33 Follows33
  split
  case h_14 =>
    simp only [field_beq, decide_eq_true_iff, List.mem_cons, List.not_mem_nil]
    split_ifs
    all_goals
      simp at *
      omega
  all_goals
    rename_i hb
    rw [hb]
    decide

theorem decodeTwo_eq_none_iff (hb : startsTwoByte b1 = true) : decodeTwo b1 b2 = none ↔
    (b1.toNat = 0x23 ∧ ((0x40 ≤ b2.toNat ∧ b2.toNat ≤ 0x7F) ∨ 0xC0 ≤ b2.toNat)) ∨
      (b1.toNat = 0x33 ∧ ¬ Follows33 b2.toNat) := by
  by_cases h23 : b1 = 0x23#8
  · rw [h23]
    exact decode23_eq_none_iff.trans (by simp)
  by_cases h33 : b1 = 0x33#8
  · rw [h33]
    exact decode33_eq_none_iff.trans (by simp)
  have hno23 : b1.toNat ≠ 0x23 := fun h => h23 (eq_ofNat_of_toNat_eq h)
  have hno33 : b1.toNat ≠ 0x33 := fun h => h33 (eq_ofNat_of_toNat_eq h)
  obtain hop | hop : b1.extractLsb' 2 6 = 0x18#6 ∨ b1.extractLsb' 2 6 = 0x1A#6 := by
    simpa [startsTwoByte, h23, h33] using hb
  · simp [decodeTwo_jmp hop, hno23, hno33]
  · simp [decodeTwo_jsr hop, hno23, hno33]

/-- Two bytes spell nothing exactly where R108 lists them. -/
theorem spelled_eq_none_iff : spelled page b1 b2 = none ↔ SpellsNothing b1.toNat b2.toNat := by
  unfold spelled SpellsNothing
  cases hb : startsTwoByte b1 with
  | false =>
    have hfirst := startsTwoByte_iff.not.1 (Bool.eq_false_iff.1 hb)
    simp only [Bool.false_eq_true, if_false, decodeOne_eq_none_iff]
    omega
  | true =>
    have hfirst := startsTwoByte_iff.1 hb
    have h64 : ¬ (0x64 ≤ b1.toNat ∧ b1.toNat ≤ 0x67) := by omega
    have h6C : ¬ (0x6C ≤ b1.toNat ∧ b1.toNat ≤ 0x6F) := by omega
    simp only [if_true, decodeTwo_eq_none_iff hb, h64, h6C, false_or]

/-! Deleted instructions (R261, R274). -/

theorem Part.has_of_hasIN (h : part.variant.hasIN = true) (i : Instr) : part.has i = true := by
  have hpart : part.variant.isCop410 = false := by
    cases hv : part.variant <;> simp_all [Variant.hasIN, Variant.isCop410]
  simp [Part.has, hpart, h]

theorem Part.has_cop410 (h : part.variant.isCop410 = true) (i : Instr) : part.has i = i.onCop410 := by
  simp [Part.has, h]

theorem Part.not_has_inin (h : part.variant.hasIN = false) : part.has .inin = false := by
  simp [Part.has, h, Instr.onCop410]

/-- What 0x23 begins is deleted but for XAD 3,15 (R274). -/
theorem decode23_deleted {i : Instr} (hb : b.toNat ≠ 0xBF) (h : decode23 b = some i) :
    i.onCop410 = false := by
  simp only [decode23, beq_iff_eq] at h
  split_ifs at h with hldd hxad
  · cases h
    rfl
  · cases h
    have hfields : encodeRD 2 (b.extractLsb' 4 2) (b.extractLsb' 0 4) = b := encodeRD_fields hxad
    refine Bool.eq_false_iff.2 fun hon => hb ?_
    obtain ⟨hr, hd⟩ : b.extractLsb' 4 2 = 3 ∧ b.extractLsb' 0 4 = 15 := by simpa [Instr.onCop410] using hon
    rw [← hfields, hr, hd]
    rfl

theorem decode33_eq_ogi (h : 0x50 ≤ b.toNat ∧ b.toNat ≤ 0x5F) :
    decode33 b = some (.ogi (b.extractLsb' 0 4)) := by
  have hfield : b.extractLsb' 4 4 = 5#4 := by
    rw [← beq_iff_eq, field_beq]
    simp
    omega
  have hb : 5#4 ++ b.extractLsb' 0 4 = b := append_field_of_eq hfield
  exact (congrArg decode33 hb).symm.trans (decode33_y _).1

theorem decode33_eq_lbi2 (h : 0x80 ≤ b.toNat ∧ b.toNat ≤ 0xBF) :
    decode33 b = some (.lbi2 (b.extractLsb' 4 2) (b.extractLsb' 0 4)) := by
  have hfield : b.extractLsb' 6 2 = 2#2 := by
    rw [← beq_iff_eq, field_beq]
    simp
    omega
  have hb : encodeRD 2 (b.extractLsb' 4 2) (b.extractLsb' 0 4) = b := encodeRD_fields hfield
  exact (congrArg decode33 hb).symm.trans (decode33_encodeRD _ _)

/-- The patterns that the COP410L and COP411L delete (R274). -/
theorem spelled_deleted_cop410 {i : Instr}
    (hbytes : b1.toNat ∈ [0x10, 0x4A, 0x41, 0x12] ∨ (b1.toNat = 0x23 ∧ b2.toNat ≠ 0xBF)
      ∨ (b1.toNat = 0x33 ∧ (b2.toNat ∈ [0x2C, 0x28, 0x29] ∨ (0x50 ≤ b2.toNat ∧ b2.toNat ≤ 0x5F)
        ∨ (0x80 ≤ b2.toNat ∧ b2.toNat ≤ 0xBF))))
    (h : spelled page b1 b2 = some i) : i.onCop410 = false := by
  obtain hone | ⟨h23, hb2⟩ | ⟨h33, hb2⟩ := hbytes
  · simp only [List.mem_cons, List.not_mem_nil, or_false] at hone
    obtain hb | hb | hb | hb := hone
    all_goals
      rw [eq_ofNat_of_toNat_eq hb] at h
      cases h
      rfl
  · rw [eq_ofNat_of_toNat_eq h23] at h
    exact decode23_deleted hb2 h
  · rw [eq_ofNat_of_toNat_eq h33] at h
    replace h : decode33 b2 = some i := h
    obtain hfixed | hogi | hlbi := hb2
    · simp only [List.mem_cons, List.not_mem_nil, or_false] at hfixed
      obtain hb | hb | hb := hfixed
      all_goals
        rw [eq_ofNat_of_toNat_eq hb] at h
        cases h
        rfl
    · cases (decode33_eq_ogi hogi).symm.trans h
      rfl
    · cases (decode33_eq_lbi2 hlbi).symm.trans h
      rfl

end Sys2Proof

/-! PROOFS. Why a step stops (R108, R187, R262, R290). -/

namespace Sys2Proof.Machine

variable {s t : State} {i : Instr} {f : Fault}

/-! The instruction. -/

theorem exec_inil_completes (h : s.part.variant.hasIN = true ∨ s.part.cko = .generalInput) :
    ∃ t, exec .inil s = .next t := by
  change ∃ t, execInil s = .next t
  unfold execInil
  split
  · exact ⟨_, rfl⟩
  · rename_i hIN
    exact ⟨_, if_pos (h.resolve_left hIN)⟩

theorem exec_inil_fault (hIN : s.part.variant.hasIN = false) (hcko : s.part.cko ≠ .generalInput) :
    exec .inil s = .fault .inilNonFunctional := by
  change execInil s = _
  rw [execInil, if_neg (by simp [hIN]), if_neg hcko]

/-- An instruction completes, or is a RETSK or an INIL that the spec lets fault. -/
theorem exec_outcome (i : Instr) (s : State) :
    (∃ t, exec i s = .next t)
      ∨ (i = .retsk ∧ s.skipSaved = true ∧ exec i s = .fault .retskWithSavedSkip)
      ∨ (i = .inil ∧ s.part.variant.hasIN = false ∧ s.part.cko ≠ .generalInput
          ∧ exec i s = .fault .inilNonFunctional) := by
  cases i
  case retsk =>
    cases h : s.skipSaved with
    | false => exact .inl ⟨_, exec_retsk h⟩
    | true => exact .inr (.inl ⟨rfl, rfl, exec_retsk_fault h⟩)
  case inil =>
    by_cases h : s.part.variant.hasIN = true ∨ s.part.cko = .generalInput
    · exact .inl (exec_inil_completes h)
    · obtain ⟨hIN, hcko⟩ := not_or.1 h
      have hIN' : s.part.variant.hasIN = false := by simpa using hIN
      exact .inr (.inr ⟨rfl, hIN', hcko, exec_inil_fault hIN' hcko⟩)
  all_goals exact .inl ⟨_, rfl⟩

theorem exec_ne_refused (i : Instr) (s : State) (r : Refusal) : exec i s ≠ .refused r := by
  obtain ⟨t, h⟩ | ⟨-, -, h⟩ | ⟨-, -, -, h⟩ := exec_outcome i s
  all_goals
    rw [h]
    nofun

theorem exec_fault (h : exec i s = .fault f) :
    (f = .retskWithSavedSkip ∧ i = .retsk ∧ s.skipSaved = true)
      ∨ (f = .inilNonFunctional ∧ i = .inil ∧ s.part.variant.hasIN = false
          ∧ s.part.cko ≠ .generalInput) := by
  obtain ⟨t, hx⟩ | ⟨hi, hsaved, hx⟩ | ⟨hi, hIN, hcko, hx⟩ := exec_outcome i s
  all_goals cases hx.symm.trans h
  · exact .inl ⟨rfl, hi, hsaved⟩
  · exact .inr ⟨rfl, hi, hIN, hcko⟩

/-! The fetch. -/

/-- A fetch writes P alone (R121). -/
theorem State.fetch_frame (h : s.fetch = .ok (i, t)) : t = { s with P := t.P } := by
  obtain ⟨-, -, rfl⟩ := State.fetch_ok h
  split <;> rfl

/-- A fetch faults exactly on bytes that the decoder rejects (R108). -/
theorem State.fetch_error_iff :
    s.fetch = .error f ↔ f = .illegalEncoding ∧
      ∃ e, decode s.part (pageOf s.nextP) [s.romRead s.P, s.romRead s.nextP] = .error e := by
  unfold State.fetch
  simp only
  split
  · rename_i i rest hd
    replace hd : decode s.part (pageOf s.nextP) [s.romRead s.P, s.romRead s.nextP] = .ok (i, rest) := hd
    simp [hd]
  · rename_i e hd
    replace hd : decode s.part (pageOf s.nextP) [s.romRead s.P, s.romRead s.nextP] = .error e := hd
    simpa [hd] using eq_comm

/-! The step. -/

theorem step_ne_refused (s : State) (r : Refusal) : step s ≠ .refused r := by
  cases ho : s.overridden with
  | true =>
    rw [step_of_overridden ho]
    nofun
  | false =>
    rw [step_of_not_overridden ho]
    unfold State.fetchAndRun
    split
    · unfold State.stepWith
      split
      · nofun
      · split
        · nofun
        · nofun
        · rename_i hx
          exact absurd hx (exec_ne_refused _ _ _)
    · nofun

/-- Bytes that the decoder rejects fault, whatever the skip logic holds. -/
theorem step_illegalEncoding (ho : s.overridden = false)
    (he : ∃ e, decode s.part (pageOf s.nextP) [s.romRead s.P, s.romRead s.nextP] = .error e) :
    step s = .fault .illegalEncoding := by
  rw [step_of_not_overridden ho, State.fetchAndRun, State.fetch_error_iff.2 ⟨rfl, he⟩]

/-- A step faults in its fetch, on bytes that the decoder rejects, or in the instruction it executes, which
is fetched with `skip` clear and answers for the state before the step. -/
theorem step_fault_cases (h : step s = .fault f) :
    s.overridden = false ∧
      ((f = .illegalEncoding ∧
        ∃ e, decode s.part (pageOf s.nextP) [s.romRead s.P, s.romRead s.nextP] = .error e) ∨
      ∃ i rest, decode s.part (pageOf s.nextP) [s.romRead s.P, s.romRead s.nextP] = .ok (i, rest) ∧
        s.skip = false ∧
        ((f = .retskWithSavedSkip ∧ i = .retsk ∧ s.skipSaved = true) ∨
          (f = .inilNonFunctional ∧ i = .inil ∧ s.part.variant.hasIN = false
            ∧ s.part.cko ≠ .generalInput))) := by
  obtain ⟨ho, hf | ⟨i, s1, hf, hp, hx⟩⟩ := step_fault h
  · exact ⟨ho, .inl (State.fetch_error_iff.1 hf)⟩
  · obtain ⟨rest, hd, -⟩ := State.fetch_ok hf
    have hs1 : s1 = { s with P := s1.P } := State.fetch_frame hf
    rw [hs1] at hp hx
    obtain ⟨hskip, -⟩ : s.skip = false ∧ _ := by simpa [State.passesOver] using hp
    have hstop := exec_fault hx
    exact ⟨ho, .inr ⟨i, rest, hd, hskip, hstop⟩⟩

/-- Settles O16: RETSK and INIL have the bytes they encode to. -/
theorem stepStopsOnlyForTheSpecsThreeReasons : Obligations.StepStopsOnlyForTheSpecsThreeReasons := by
  refine fun s => ⟨step_ne_refused s, fun f h => ?_⟩
  obtain ⟨ho, hillegal | ⟨i, rest, hd, hskip, hstop⟩⟩ := step_fault_cases h
  · exact ⟨ho, .inl hillegal⟩
  · obtain ⟨-, -, -, hbytes⟩ := decode_eq_ok_iff.1 hd
    obtain ⟨rfl, rfl, hsaved⟩ | ⟨rfl, rfl, hIN, hcko⟩ := hstop
    · obtain ⟨hb1, -⟩ := List.cons_eq_cons.1 hbytes
      exact ⟨ho, .inr (.inl ⟨rfl, hb1, hskip, hsaved⟩)⟩
    · obtain ⟨hb1, hbytes2⟩ := List.cons_eq_cons.1 hbytes
      obtain ⟨hb2, -⟩ := List.cons_eq_cons.1 hbytes2
      exact ⟨ho, .inr (.inr ⟨rfl, hb1, hb2, hskip, hIN, hcko⟩)⟩

/-- Settles O4: two bytes spell nothing exactly where they are listed, and with IN pins no instruction is
deleted. -/
theorem illegalEncodingsAreExactlyTheListed : Obligations.IllegalEncodingsAreExactlyTheListed := by
  intro s b1 b2 after33 spellsNothing
  have hlisted : spelled (pageOf s.nextP) (s.romRead s.P) (s.romRead s.nextP) = none ↔ spellsNothing :=
    spelled_eq_none_iff
  constructor
  · intro hnothing ho
    refine step_illegalEncoding ho (decode_pair_error_iff.2 fun i hi => ?_)
    cases (hlisted.2 hnothing).symm.trans hi
  · intro hsomething hIN h
    obtain ⟨-, ⟨-, he⟩ | ⟨-, -, -, -, ⟨hf, -⟩ | ⟨hf, -⟩⟩⟩ := step_fault_cases h
    · refine hsomething (hlisted.1 (Option.eq_none_iff_forall_ne_some.2 fun i hi => ?_))
      cases (decode_pair_error_iff.1 he i hi).symm.trans (Part.has_of_hasIN hIN i)
    · cases hf
    · cases hf

/-- Settles O5: each listed pattern spells an instruction that the part lacks, or nothing. -/
theorem deletedInstructionsFault : Obligations.DeletedInstructionsFault := by
  intro s ho b1 b2
  constructor
  · intro hpart hbytes
    refine step_illegalEncoding ho (decode_pair_error_iff.2 fun i hi => ?_)
    rw [Part.has_cop410 hpart]
    exact spelled_deleted_cop410 hbytes hi
  · intro hIN hb1 hb2
    refine step_illegalEncoding ho (decode_pair_error_iff.2 fun i hi => ?_)
    rw [eq_ofNat_of_toNat_eq hb1, eq_ofNat_of_toNat_eq hb2] at hi
    cases hi
    exact Part.not_has_inin hIN

end Sys2Proof.Machine

/-! PROOFS. The bytes of the immediate loads of B and EN and what they load (R96, R97, R104, R232, R233), and
the spec's example words. -/

namespace Sys2Proof.Machine

/-- Settles O3: each word by computation. -/
theorem wordsOfTheSpecDecode : Obligations.WordsOfTheSpecDecode :=
  ⟨rfl, rfl, rfl, rfl, rfl, rfl, rfl, rfl, rfl, rfl, rfl, rfl, rfl, rfl, rfl⟩

theorem encodeRD_eq_ofNat (t r : BitVec 2) (d : Nibble) :
    encodeRD t r d = BitVec.ofNat 8 ((t.toNat * 4 + r.toNat) * 16 + d.toNat) := by
  rw [encodeRD, append_eq_ofNat, append_toNat]
  rfl

/-- The one-byte LBI: d minus 1 modulo 16 in the low four bits (R96). -/
theorem encode_lbi1 (r : BitVec 2) (d : Nibble) :
    encode (.lbi1 r d) = [BitVec.ofNat 8 (16 * r.toNat + (d.toNat + 15) % 16)] := by
  have hlow : (d - 1).toNat = (d.toNat + 15) % 16 := by
    rw [BitVec.toNat_sub, Nat.add_comm]
    rfl
  change [encodeRD 0 r (d - 1)] = _
  rw [encodeRD_eq_ofNat, hlow, Nat.mul_comm 16]
  simp

theorem lbi1_wf (r : BitVec 2) (d : Nibble) :
    (Instr.lbi1 r d).wf = decide (d.toNat = 0 ∨ 9 ≤ d.toNat) := by
  revert r d
  decide

/-- The second byte of the two-byte LBI (R97). -/
theorem encode_lbi2 (r : BitVec 2) (d : Nibble) :
    encode (.lbi2 r d) = [0x33, BitVec.ofNat 8 (0x80 + 16 * r.toNat + d.toNat)] := by
  rw [encode, encodeRD_eq_ofNat]
  have hsum : ((2#2).toNat * 4 + r.toNat) * 16 + d.toNat = 0x80 + 16 * r.toNat + d.toNat := by
    simp
    omega
  exact congrArg (fun n => [0x33, BitVec.ofNat 8 n]) hsum

theorem exec_lbi1 (r : BitVec 2) (d : Nibble) (s : State) :
    exec (.lbi1 r d) s = .next { s with B := r ++ d } := rfl

theorem exec_lbi2 (r : BitVec 2) (d : Nibble) (s : State) :
    exec (.lbi2 r d) s = .next { s with B := r ++ d } := rfl

/-- A RAM address as a number (R67). -/
theorem ramAddr_toNat (r : BitVec 2) (d : Nibble) : (r ++ d).toNat = 16 * r.toNat + d.toNat := by
  rw [append_toNat, Nat.mul_comm]
  rfl

/-- Settles O55: both forms load the same address, and the step sets the chain for either. -/
theorem lbiLoadsB : Obligations.LbiLoadsB :=
  fun r d s => ⟨encode_lbi1 r d, lbi1_wf r d, encode_lbi2 r d,
    ⟨_, exec_lbi1 r d s, ramAddr_toNat r d, rfl⟩, ⟨_, exec_lbi2 r d s, ramAddr_toNat r d, rfl⟩, rfl, rfl⟩

theorem encode_lei (y : Nibble) : encode (.lei y) = [0x33, BitVec.ofNat 8 (0x60 + y.toNat)] := by
  rw [encode, append_eq_ofNat]
  rfl

theorem exec_lei (y : Nibble) (s : State) : exec (.lei y) s = .next { s with EN := y } := rfl

/-- Settles O56: `encode_lei` and `exec_lei`. -/
theorem leiLoadsEn : Obligations.LeiLoadsEn := fun y s => ⟨encode_lei y, exec_lei y s⟩

end Sys2Proof.Machine

/-! PROOFS. The sequencer (R121 to R134): the fetch that a decoding gives, and the three ways a step goes on with
the fetched instruction. -/

namespace Sys2Proof.Machine

variable {s t : State} {i : Instr} {rest : List Byte}

/-- The first byte of what decodes says how many bytes the instruction has (R91). -/
theorem startsTwoByte_of_decode {part : Part} {page : Nibble} {b1 b2 : Byte}
    (hd : decode part page [b1, b2] = .ok (i, rest)) : startsTwoByte b1 = i.twoByte := by
  obtain ⟨hw, -, -, hbytes⟩ := decode_eq_ok_iff.1 hd
  obtain ⟨-, hhead⟩ := encodingShape i hw
  obtain ⟨b, he, -⟩ | ⟨b, b', he, -⟩ := encode_cases hw
  all_goals
    rw [he] at hbytes hhead
    obtain ⟨rfl, -⟩ := List.cons_eq_cons.1 hbytes
    simpa using hhead

/-- The state with P past all bytes of `i` (R121, R123). -/
def State.pastInstr (s : State) (i : Instr) : State :=
  { s with P := if i.twoByte then s.part.romAddr (s.nextP + 1) else s.nextP }

/-- What decodes at P is what the fetch answers, with P past it. -/
theorem State.fetch_of_decode
    (hd : decode s.part (pageOf s.nextP) [s.romRead s.P, s.romRead s.nextP] = .ok (i, rest)) :
    s.fetch = .ok (i, s.pastInstr i) := by
  have hP : (if startsTwoByte (s.romRead s.P) then (s.setP s.nextP).setP (s.setP s.nextP).nextP
      else s.setP s.nextP) = s.pastInstr i := by
    rw [startsTwoByte_of_decode hd, State.pastInstr]
    split <;> rfl
  cases hf : s.fetch with
  | error f =>
    obtain ⟨-, e, he⟩ := State.fetch_error_iff.1 hf
    cases hd.symm.trans he
  | ok fetched =>
    obtain ⟨j, t⟩ := fetched
    obtain ⟨rest', hd', ht⟩ := State.fetch_ok hf
    cases hd.symm.trans hd'
    rw [ht, hP]

/-- Where nothing overrides it, a step goes on with the instruction that decodes at P. -/
theorem step_of_decode
    (hd : decode s.part (pageOf s.nextP) [s.romRead s.P, s.romRead s.nextP] = .ok (i, rest))
    (ho : s.overridden = false) : step s = (s.pastInstr i).stepWith i := by
  rw [step_of_not_overridden ho, State.fetchAndRun, State.fetch_of_decode hd]

theorem State.stepWith_of_passesOver (h : s.passesOver i = true) :
    s.stepWith i = .next (s.passOver.finish i false) := if_pos h

theorem State.passesOver_eq_false_iff :
    s.passesOver i = false ↔ s.skip = false ∧ (s.lbiChain = true → i.isLbi = false) := by
  simp [State.passesOver]

/-- Settles O6: neither the skip flag nor the chain holds `i` back, so the step executes it. -/
theorem stepExecutesTheDecodedInstruction : Obligations.StepExecutesTheDecodedInstruction := by
  intro s i rest hd ho hskip hchain
  have hpass : (s.pastInstr i).passesOver i = false := State.passesOver_eq_false_iff.2 ⟨hskip, hchain⟩
  rw [step_of_decode hd ho, State.stepWith, if_neg (Bool.eq_false_iff.1 hpass)]
  rfl

/-- Settles O7: the skip flag passes over `i`, whichever instruction it is. -/
theorem skippedInstructionHasNoEffect : Obligations.SkippedInstructionHasNoEffect := by
  intro s i rest hd ho hskip
  have hpass : (s.pastInstr i).passesOver i = true := by
    simp [State.passesOver, State.pastInstr, hskip]
  have hclear : (s.pastInstr i).passOver = ((s.pastInstr i).setSkip false).setLbiChain false := if_pos hskip
  rw [step_of_decode hd ho, State.stepWith_of_passesOver hpass, hclear]
  rfl

/-- Settles O8: the chain passes over `i` because it is an LBI, and with `skip` clear no flag changes. -/
theorem lbiChainPassesOverLbis : Obligations.LbiChainPassesOverLbis := by
  intro s i rest hd ho hskip hchain hlbi
  have hpass : (s.pastInstr i).passesOver i = true := by
    simp [State.passesOver, State.pastInstr, hchain, hlbi]
  have hkeep : (s.pastInstr i).passOver = s.pastInstr i := if_neg (by simp [State.pastInstr, hskip])
  rw [step_of_decode hd ho, State.stepWith_of_passesOver hpass, hkeep]
  rfl

end Sys2Proof.Machine

/-! PROOFS. The flags of the sequencer under the instructions (R125, R298): who writes `skip` and
`skip_saved`, and that none writes `lbi_chain` and `irq`. -/

namespace Sys2Proof.Machine

variable {s t : State} {i : Instr}

/-- INIL that completes: with IN pins it resets the latches, without them it writes A alone (R162, R262). -/
theorem exec_inil_next (h : exec .inil s = .next t) :
    (s.part.variant.hasIN = true ∧ t = { s with A := t.A, IL3 := 0, IL0 := 0 })
      ∨ (s.part.variant.hasIN = false ∧ t = { s with A := t.A }) := by
  change execInil s = .next t at h
  unfold execInil at h
  split at h
  · cases h
    exact .inl ⟨‹_›, rfl⟩
  · rename_i hIN
    split at h
    · cases h
      exact .inr ⟨by simpa using hIN, rfl⟩
    · cases h

/-- LQID: the push and pop leave P and SA, and the level below the last one in the last (R205, R269). -/
theorem exec_lqid (s : State) :
    exec .lqid s = .next { s with
      Q := s.romRead s.romPointer
      SB := if s.part.variant.isCop410 then s.SA else s.SB
      SC := if s.part.variant.isCop410 then s.SC else s.SB } := by
  change Host.Outcome.next ((((s.push s.P).setP s.romPointer).setQ (s.romRead s.romPointer)).popP) = _
  rw [State.popP_eq, State.push_eq]
  cases hpart : s.part.variant.isCop410 <;> simp [State.setP, State.setQ, hpart]

/-- RETSK completes only where no saved skip status is pending (R187). -/
theorem exec_retsk_next (h : exec .retsk s = .next t) : s.skipSaved = false := by
  cases hsaved : s.skipSaved with
  | false => rfl
  | true => cases (exec_retsk_fault hsaved).symm.trans h

theorem exec_keeps_lbiChain_irq (h : exec i s = .next t) : t.lbiChain = s.lbiChain ∧ t.irq = s.irq := by
  cases exec_writes h
  all_goals
    rw [‹t = _›]
    exact ⟨rfl, rfl⟩

/-- Of the returns, RET alone moves the saved skip status: RETSK completes only where none is pending. -/
theorem exec_keeps_skipSaved (h : exec i s = .next t) (hi : i ≠ .ret) : t.skipSaved = s.skipSaved := by
  cases exec_writes h
  case pop hreturn _ =>
    obtain rfl : i = .retsk := (List.mem_pair.1 hreturn).resolve_left hi
    cases (exec_retsk (exec_retsk_next h)).symm.trans h
    rfl
  all_goals rw [‹t = _›]

/-- The instructions not of R125's list keep `skip`: calls and LQID write the stack, INIL its latches, and
the rest their own registers by plain updates. -/
theorem exec_keeps_skip (h : exec i s = .next t)
    (hfixed : i ∉ [.asc, .casc, .retsk, .ret, .skc, .ske, .skgbz0, .skgbz1, .skgbz2, .skgbz3, .skgz,
      .skmbz0, .skmbz1, .skmbz2, .skmbz3, .skt])
    (haisc : ∀ y, i ≠ .aisc y) (hxds : ∀ r, i ≠ .xds r) (hxis : ∀ r, i ≠ .xis r) : t.skip = s.skip := by
  cases i
  case asc | casc | retsk | ret | skc | ske | skgbz0 | skgbz1 | skgbz2 | skgbz3 | skgz | skmbz0 | skmbz1
      | skmbz2 | skmbz3 | skt => exact absurd (by decide) hfixed
  case aisc y => exact absurd rfl (haisc y)
  case xds r => exact absurd rfl (hxds r)
  case xis r => exact absurd rfl (hxis r)
  case inil => obtain ⟨-, ht⟩ | ⟨-, ht⟩ := exec_inil_next h <;> rw [ht]
  case jsr a =>
    cases (exec_jsr a s).symm.trans h
    rfl
  case jsrp a =>
    cases (exec_jsr _ s).symm.trans h
    rfl
  case lqid =>
    cases (exec_lqid s).symm.trans h
    rfl
  all_goals
    cases h
    rfl

/-- Settles O17: flag by flag. -/
theorem onlyTheListedInstructionsSetSkip : Obligations.OnlyTheListedInstructionsSetSkip :=
  fun _ _ _ h => ⟨exec_keeps_skip h, exec_keeps_skipSaved h, exec_keeps_lbiChain_irq h⟩

/-- No LBI sets `skip`, in either form. -/
theorem exec_keeps_skip_of_isLbi (h : exec i s = .next t) (hi : i.isLbi = true) : t.skip = s.skip := by
  cases i
  case lbi1 | lbi2 =>
    cases h
    rfl
  all_goals cases hi

end Sys2Proof.Machine

/-! PROOFS. The end of a step (R132, R133, R305, R308, R345): the cycles as numbers, and what the interrupt
check may write. -/

namespace Sys2Proof

/-- The cycles of a step (R345): two for two bytes and for an executed JID or LQID, otherwise one. -/
theorem Instr.cycles_eq (i : Instr) (e : Bool) :
    i.cycles e = if i.twoByte = true ∨ (e = true ∧ (i = .jid ∨ i = .lqid)) then 2 else 1 := by
  simp [Instr.cycles, Instr.readsRom]

theorem Instr.cycles_one_or_two (i : Instr) (e : Bool) : i.cycles e = 1 ∨ i.cycles e = 2 := by
  unfold Instr.cycles
  split
  · exact .inr rfl
  · exact .inl rfl

end Sys2Proof

namespace Sys2Proof.Machine

variable {s : State}

theorem State.tickTimeBase_TC (hpart : s.part.variant.isCop410 = false) :
    s.tickTimeBase.TC.toNat = (s.TC.toNat + 1) % 1024 := by
  by_cases htc : s.TC = 1023
  · rw [s.tickTimeBase_at_wrap hpart htc, htc]
    rfl
  · rw [s.tickTimeBase_below_wrap hpart htc, State.setTC_TC, BitVec.toNat_add]
    rfl

theorem State.tickTimeBase_T (hpart : s.part.variant.isCop410 = false) :
    s.tickTimeBase.T = (s.T || decide (1024 ≤ s.TC.toNat + 1)) := by
  by_cases htc : s.TC = 1023
  · rw [s.tickTimeBase_at_wrap hpart htc, htc]
    simp
  · have hbelow : ¬ 1024 ≤ s.TC.toNat + 1 := by bv_omega
    rw [s.tickTimeBase_below_wrap hpart htc]
    simp [hbelow]

theorem State.tickTimeBase_cop410 (hpart : s.part.variant.isCop410 = true) : s.tickTimeBase = s :=
  if_pos hpart

/-- A cycle ticks the counter whatever the serial register does. -/
theorem State.cycle_timer (s : State) (si : Bit) :
    (s.cycle si).TC = s.tickTimeBase.TC ∧ (s.cycle si).T = s.tickTimeBase.T := by
  unfold State.cycle
  split <;> exact ⟨rfl, rfl⟩

theorem State.tickTimeBase_en0 (s : State) : s.tickTimeBase.en0 = s.en0 := by
  rw [State.tickTimeBase_eq]
  rfl

theorem State.cycle_en0 (s : State) (si : Bit) : (s.cycle si).en0 = s.en0 := by
  rw [State.cycle_eq]
  rfl

theorem State.cycle_part (s : State) (si : Bit) : (s.cycle si).part = s.part := by
  rw [State.cycle_eq]

theorem State.cycle_SIO_counting (h : s.en0 = true) (si : Bit) : (s.cycle si).SIO = s.SIO := by
  rw [State.cycle, if_pos (s.tickTimeBase_en0.trans h), State.tickTimeBase_eq]

/-- A shift doubles the digit modulo 16 and takes the sample as its low bit (R308). -/
theorem State.cycle_SIO_shifting (h : s.en0 = false) (si : Bit) :
    (s.cycle si).SIO.toNat = (2 * s.SIO.toNat + si.toNat) % 16 := by
  have hsi := si.isLt
  have hSIO : (s.cycle si).SIO = s.SIO.extractLsb' 0 3 ++ si := by
    rw [State.cycle, if_neg (by simp [State.tickTimeBase_en0, h]), State.shiftSIO_eq, State.tickTimeBase_eq]
  rw [hSIO, append_toNat, BitVec.extractLsb'_toNat]
  simp
  omega

/-- `n` cycles advance TC by `n`, and set T if the counter wraps on the way (R305). -/
theorem State.runCycles_timer (inp : Inputs) (k n : Nat) (hpart : s.part.variant.isCop410 = false) :
    (s.runCycles inp k n).TC.toNat = (s.TC.toNat + n) % 1024
      ∧ (s.runCycles inp k n).T = (s.T || decide (1024 ≤ s.TC.toNat + n)) := by
  induction n generalizing s k with
  | zero =>
    have hlt := s.TC.isLt
    exact ⟨(Nat.mod_eq_of_lt hlt).symm, by simp [State.runCycles, hlt]⟩
  | succ n ih =>
    obtain ⟨hTC, hT⟩ := s.cycle_timer (inp.si k)
    obtain ⟨ihTC, ihT⟩ := ih (k + 1) (s := s.cycle (inp.si k)) (by rwa [State.cycle_part])
    rw [hTC, State.tickTimeBase_TC hpart] at ihTC ihT
    rw [hT, State.tickTimeBase_T hpart] at ihT
    have hlt := s.TC.isLt
    refine ⟨ihTC.trans (by omega), ihT.trans ?_⟩
    rw [Bool.or_assoc, ← Bool.decide_or]
    congr 2
    simp only [eq_iff_iff]
    omega

theorem State.runCycles_timer_cop410 (inp : Inputs) (k n : Nat) (hpart : s.part.variant.isCop410 = true) :
    (s.runCycles inp k n).TC = s.TC ∧ (s.runCycles inp k n).T = s.T := by
  induction n generalizing s k with
  | zero => exact ⟨rfl, rfl⟩
  | succ n ih =>
    obtain ⟨hTC, hT⟩ := s.cycle_timer (inp.si k)
    obtain ⟨ihTC, ihT⟩ := ih (k + 1) (s := s.cycle (inp.si k)) (by rwa [State.cycle_part])
    rw [State.tickTimeBase_cop410 hpart] at hTC hT
    exact ⟨ihTC.trans hTC, ihT.trans hT⟩

theorem State.runCycles_SIO_counting (inp : Inputs) (k n : Nat) (h : s.en0 = true) :
    (s.runCycles inp k n).SIO = s.SIO := by
  induction n generalizing s k with
  | zero => rfl
  | succ n ih => exact (ih (k + 1) ((s.cycle_en0 _).trans h)).trans (State.cycle_SIO_counting h _)

/-- An instruction has one cycle or two, and so one shift or two (R308, R345). -/
theorem State.runCycles_SIO_shifting (inp : Inputs) {n : Nat} (hn : n = 1 ∨ n = 2) (h : s.en0 = false) :
    (s.runCycles inp 0 n).SIO.toNat =
      if n = 2 then (4 * s.SIO.toNat + 2 * inp.si0.toNat + inp.si1.toNat) % 16
      else (2 * s.SIO.toNat + inp.si0.toNat) % 16 := by
  have hfirst : (s.cycle inp.si0).SIO.toNat = (2 * s.SIO.toNat + inp.si0.toNat) % 16 :=
    State.cycle_SIO_shifting h _
  obtain rfl | rfl := hn
  · exact hfirst
  · have hsecond := State.cycle_SIO_shifting ((s.cycle_en0 inp.si0).trans h) inp.si1
    rw [hfirst] at hsecond
    exact hsecond.trans (by simp only [if_true]; omega)

/-- The interrupt check writes at most what an interrupt entry writes (R295). -/
theorem State.interruptCheck_frame (s : State) (i : Instr) (e : Bool) :
    s.interruptCheck i e = { s with
      P := (s.interruptCheck i e).P
      SA := (s.interruptCheck i e).SA
      SB := (s.interruptCheck i e).SB
      SC := (s.interruptCheck i e).SC
      EN := (s.interruptCheck i e).EN
      skip := (s.interruptCheck i e).skip
      skipSaved := (s.interruptCheck i e).skipSaved
      lbiChain := (s.interruptCheck i e).lbiChain
      irq := (s.interruptCheck i e).irq } := by
  unfold State.interruptCheck
  split
  · rw [State.enterInterrupt_eq]
  · rfl

theorem State.finish_of_no_events (h : s.inputs.events = []) (i : Instr) (e : Bool) :
    s.finish i e = ((s.runCycles s.inputs 0 (i.cycles e)).interruptCheck i e).nextInputs := by
  rw [State.finish, h, State.applyEvents_nil]

/-- What finishing a step does to TC, T and SIO where no event follows is what its cycles do. -/
theorem State.finish_counters (h : s.inputs.events = []) (i : Instr) (e : Bool) :
    (s.finish i e).TC = (s.runCycles s.inputs 0 (i.cycles e)).TC
      ∧ (s.finish i e).T = (s.runCycles s.inputs 0 (i.cycles e)).T
      ∧ (s.finish i e).SIO = (s.runCycles s.inputs 0 (i.cycles e)).SIO := by
  rw [State.finish_of_no_events h, State.interruptCheck_frame]
  exact ⟨rfl, rfl, rfl⟩

/-- Finishing a step where no event follows writes what the cycles and an interrupt entry write, and uses up the
step's inputs. -/
theorem State.finish_frame (h : s.inputs.events = []) (i : Instr) (e : Bool) :
    s.finish i e = { s with
      TC := (s.finish i e).TC
      T := (s.finish i e).T
      SIO := (s.finish i e).SIO
      script := s.script.tail
      free := s.free + 1
      P := (s.finish i e).P
      SA := (s.finish i e).SA
      SB := (s.finish i e).SB
      SC := (s.finish i e).SC
      EN := (s.finish i e).EN
      skip := (s.finish i e).skip
      skipSaved := (s.finish i e).skipSaved
      lbiChain := (s.finish i e).lbiChain
      irq := (s.finish i e).irq } := by
  rw [State.finish_of_no_events h, State.interruptCheck_frame, State.runCycles_eq]
  rfl

/-- Settles O9: TC, T and SIO hold what the cycles left, and the rest is `finish_frame`. -/
theorem cyclesDriveTimerAndSerialRegister : Obligations.CyclesDriveTimerAndSerialRegister := by
  intro s i e hevents n t
  have hn : i.cycles e = n := i.cycles_eq e
  obtain ⟨hTC, hT, hSIO⟩ := State.finish_counters hevents i e
  rw [hn] at hTC hT hSIO
  have hcount : n = 1 ∨ n = 2 := hn ▸ i.cycles_one_or_two e
  refine ⟨fun hpart => ?_, fun hpart => ?_, fun hen => ?_, fun hen => ?_, State.finish_frame hevents i e⟩
  · rw [hTC, hT]
    exact State.runCycles_timer _ _ _ hpart
  · rw [hTC, hT]
    exact State.runCycles_timer_cop410 _ _ _ hpart
  · exact hSIO.trans (State.runCycles_SIO_counting _ _ _ hen)
  · rw [hSIO]
    exact State.runCycles_SIO_shifting _ hcount hen

end Sys2Proof.Machine

/-! PROOFS. The machine's invariant (R128, R260, R263, R268, R269, R270, R322) as named clauses, and that each
part of a step keeps them. -/

namespace Sys2Proof

theorem Variant.hasIN_of_isCop410 {v : Variant} (h : v.isCop410 = true) : v.hasIN = false := by
  cases v
  case cop410L | cop411L => rfl
  all_goals cases h

end Sys2Proof

namespace Sys2Proof.Machine

/-- What a part without IN pins never holds (R260, R263, R322). -/
structure State.NoInputs (s : State) : Prop where
  irq : s.irq = false
  IL3 : s.IL3 = 0
  IL0 : s.IL0 = 0
  skipSaved : s.skipSaved = false

/-- The program addresses of a part with 512 ROM words and two stack levels (R268, R269). -/
structure State.ShortAddresses (s : State) : Prop where
  P : s.P.toNat < 512
  SA : s.SA.toNat < 512
  SB : s.SB.toNat < 512

/-- The clauses of the invariant on what a step can write: all of it but program memory and the part. -/
structure State.Valid (s : State) : Prop where
  ramCanonical : s.ram.wf = true
  ramWithin : s.ram.within s.part.cellExists = true
  flags : s.skip = true → s.lbiChain = false
  inputs : s.part.variant.hasIN = false → s.NoInputs
  addresses : s.part.variant.isCop410 = true → s.ShortAddresses

variable {s t : State} {i : Instr}

theorem State.partInv_iff :
    s.partInv = true ↔
      (s.part.variant.hasIN = false → s.NoInputs) ∧ (s.part.variant.isCop410 = true → s.ShortAddresses) := by
  have hinputs : s.NoInputs ↔ s.irq = false ∧ s.IL3 = 0 ∧ s.IL0 = 0 ∧ s.skipSaved = false :=
    ⟨fun ⟨a, b, c, d⟩ => ⟨a, b, c, d⟩, fun ⟨a, b, c, d⟩ => ⟨a, b, c, d⟩⟩
  have haddresses : s.ShortAddresses ↔ s.P.toNat < 512 ∧ s.SA.toNat < 512 ∧ s.SB.toNat < 512 :=
    ⟨fun ⟨a, b, c⟩ => ⟨a, b, c⟩, fun ⟨a, b, c⟩ => ⟨a, b, c⟩⟩
  rw [hinputs, haddresses, State.partInv]
  cases s.part.variant.hasIN <;> cases s.part.variant.isCop410 <;> simp [and_assoc]

theorem State.inv_iff :
    s.Inv = true ↔
      (s.part.wf = true ∧ s.rom.wf = true ∧ s.rom.within s.part.romHas = true) ∧ s.Valid := by
  have hvalid : s.Valid ↔ s.ram.wf = true ∧ s.ram.within s.part.cellExists = true
      ∧ (s.skip = true → s.lbiChain = false) ∧ s.partInv = true := by
    rw [State.partInv_iff]
    exact ⟨fun ⟨a, b, c, d, e⟩ => ⟨a, b, c, d, e⟩, fun ⟨a, b, c, d, e⟩ => ⟨a, b, c, d, e⟩⟩
  rw [hvalid, State.Inv]
  simp only [Bool.and_eq_true, Bool.not_eq_true', Bool.and_eq_false_imp]
  tauto

/-! The parts of a step around the instruction. -/

/-- A fetch leaves P within the part's width: it wraps at the top of the ROM (R121, R268). -/
theorem State.Valid.fetch (h : s.Valid) (hf : s.fetch = .ok (i, t)) : t.Valid := by
  obtain ⟨-, -, ht⟩ := State.fetch_ok hf
  have hP : s.part.variant.isCop410 = true → t.P.toNat < 512 := by
    intro hpart
    rw [ht]
    split
    all_goals exact Part.romAddr_lt _ _ hpart
  rw [State.fetch_frame hf]
  exact ⟨h.ramCanonical, h.ramWithin, h.flags, fun hIN => { h.inputs hIN with },
    fun hpart => ⟨hP hpart, (h.addresses hpart).SA, (h.addresses hpart).SB⟩⟩

theorem State.Valid.passOver (h : s.Valid) : s.passOver.Valid := by
  unfold State.passOver
  split
  · exact ⟨h.ramCanonical, h.ramWithin, nofun, fun hIN => { h.inputs hIN with },
      fun hpart => { h.addresses hpart with }⟩
  · exact h

theorem State.Valid.runCycles (h : s.Valid) (inp : Inputs) (k n : Nat) : (s.runCycles inp k n).Valid := by
  rw [State.runCycles_eq]
  exact ⟨h.ramCanonical, h.ramWithin, h.flags, fun hIN => { h.inputs hIN with },
    fun hpart => { h.addresses hpart with }⟩

/-- Only a part with IN pins enters an interrupt, and none of these has short addresses. -/
theorem State.Valid.enterInterrupt (h : s.Valid) (hIN : s.part.variant.hasIN = true) :
    s.enterInterrupt.Valid := by
  rw [State.enterInterrupt_eq]
  exact ⟨h.ramCanonical, h.ramWithin, nofun, fun hno => absurd (hIN.symm.trans hno) nofun,
    fun hpart => absurd (hIN.symm.trans (Variant.hasIN_of_isCop410 hpart)) nofun⟩

theorem State.Valid.interruptCheck (h : s.Valid) (i : Instr) (e : Bool) : (s.interruptCheck i e).Valid := by
  unfold State.interruptCheck
  split
  · rename_i hdue
    simp only [State.interruptDue, Bool.and_eq_true] at hdue
    obtain ⟨⟨⟨⟨-, hIN⟩, -⟩, -⟩, -⟩ := hdue
    exact h.enterInterrupt hIN
  · exact h

theorem State.Valid.nextInputs (h : s.Valid) : s.nextInputs.Valid :=
  ⟨h.ramCanonical, h.ramWithin, h.flags, fun hIN => { h.inputs hIN with },
    fun hpart => { h.addresses hpart with }⟩

/-! The events of the outside world. -/

theorem State.Valid.initialise (h : s.Valid) (ten : Bool) : (s.initialise ten).Valid :=
  ⟨h.ramCanonical, h.ramWithin, nofun,
    fun hIN => ⟨rfl, (h.inputs hIN).IL3, (h.inputs hIN).IL0, rfl⟩,
    fun hpart => ⟨(by decide : (0 : RomAddr).toNat < 512), Part.romAddr_lt _ _ hpart, Part.romAddr_lt _ _ hpart⟩⟩

theorem State.Valid.powerUp (h : s.Valid) (held : Bool) : (s.powerUp held).Valid := by
  have hram : (s.powerUp held).ram.wf = true ∧ (s.powerUp held).ram.within s.part.cellExists = true := by
    by_cases hkept : s.part.cko = .ramSupply ∧ held = true
    · rw [State.powerUp_ram_kept hkept]
      exact ⟨h.ramCanonical, h.ramWithin⟩
    · rw [State.powerUp_ram_lost hkept]
      exact powerUpCells_wf _ _ _
  have hinit := h.initialise false
  refine ⟨hram.1, hram.2, hinit.flags, fun hIN => ?_, fun hpart => { hinit.addresses hpart with }⟩
  obtain ⟨hIL3, hIL0⟩ := State.powerUp_IL_of_no_IN (s := s) hIN held
  exact ⟨rfl, hIL3.trans (h.inputs hIN).IL3, hIL0.trans (h.inputs hIN).IL0, rfl⟩

/-- A pulse is latched only where the part has IN pins; the other events but RESET and power-up write latches
that the invariant leaves free. -/
theorem State.Valid.applyEvent (h : s.Valid) (ev : Event) : (s.applyEvent ev).Valid := by
  cases ev <;> simp only [State.applyEvent]
  case reset ten => exact h.initialise ten
  case powerUp held => exact h.powerUp held
  case fallSI | hostWrite =>
    split
    · exact ⟨h.ramCanonical, h.ramWithin, h.flags, fun hIN => { h.inputs hIN with },
        fun hpart => { h.addresses hpart with }⟩
    · exact h
  case pulseIN1 | pulseIN3 | pulseIN0 =>
    split
    · have hIN : s.part.variant.hasIN = true := by simp_all
      exact ⟨h.ramCanonical, h.ramWithin, h.flags, fun hno => absurd (hIN.symm.trans hno) nofun,
        fun hpart => { h.addresses hpart with }⟩
    · exact h

theorem State.Valid.applyEvents (h : s.Valid) (es : List Event) : (s.applyEvents es).Valid := by
  induction es generalizing s with
  | nil => exact h
  | cons ev es ih => exact ih (h.applyEvent ev)

theorem State.Valid.finish (h : s.Valid) (i : Instr) (e : Bool) : (s.finish i e).Valid :=
  (((h.runCycles _ _ _).interruptCheck i e).nextInputs).applyEvents _

/-! The instruction: data memory, the input latches and the saved skip, and the program addresses. -/

/-- An instruction writes at most one digit, in a cell the part has (R66, R270). -/
theorem exec_ram (h : exec i s = .next t) :
    t.ram = s.ram ∨ ∃ a v, t.ram = s.ram.write (s.storeCell a) v := by
  by_cases hi : i.Stores
  · refine .inr ?_
    cases i
    case cqma | inl | rmb0 | rmb1 | rmb2 | rmb3 | smb0 | smb1 | smb2 | smb3 | stii | x | xad | xds | xis =>
      cases h
      exact ⟨_, _, rfl⟩
    all_goals simp [Instr.Stores] at hi
  · exact .inl (exec_keeps_ram h hi)

theorem State.Valid.exec_ram (hs : s.Valid) (h : exec i s = .next t) :
    t.ram.wf = true ∧ t.ram.within s.part.cellExists = true := by
  obtain hram | ⟨a, v, hram⟩ := Machine.exec_ram h
  all_goals rw [hram]
  · exact ⟨hs.ramCanonical, hs.ramWithin⟩
  · exact ⟨Memory.wf_write hs.ramCanonical _ _, Memory.within_write hs.ramWithin (s.storeCell_exists a) _⟩

theorem State.NoInputs.exec (hs : s.NoInputs) (hIN : s.part.variant.hasIN = false)
    (h : exec i s = .next t) : t.NoInputs := by
  have hIL : t.IL3 = s.IL3 ∧ t.IL0 = s.IL0 := by
    by_cases hi : i = .inil
    · subst hi
      obtain ⟨hyes, -⟩ | ⟨-, ht⟩ := exec_inil_next h
      · cases hIN.symm.trans hyes
      · rw [ht]
        exact ⟨rfl, rfl⟩
    · exact exec_keeps_IL3_IL0 h hi
  have hsaved : t.skipSaved = false := by
    by_cases hi : i = .ret
    · subst hi
      cases (exec_ret s).symm.trans h
      rfl
    · exact (exec_keeps_skipSaved h hi).trans hs.skipSaved
  exact ⟨(exec_keeps_lbiChain_irq h).2.trans hs.irq, hIL.1.trans hs.IL3, hIL.2.trans hs.IL0, hsaved⟩

/-- Replacing at most nine low bits of a 9-bit address gives a 9-bit address. -/
theorem replaceLow_lt {p : RomAddr} (hp : p.toNat < 512) {m n : Nat} (hn : n ≤ 9) (y : BitVec n) :
    (p.extractLsb' n m ++ y).toNat < 512 := by
  have hpow : 2 ^ (9 - n) * 2 ^ n = 512 := by rw [← pow_add, Nat.sub_add_cancel hn]; rfl
  have hhigh : p.toNat / 2 ^ n % 2 ^ m < 2 ^ (9 - n) :=
    (Nat.mod_le _ _).trans_lt (Nat.div_lt_of_lt_mul (by rwa [Nat.mul_comm, hpow]))
  rw [append_toNat, BitVec.extractLsb'_toNat, Nat.shiftRight_eq_div_pow]
  calc p.toNat / 2 ^ n % 2 ^ m * 2 ^ n + y.toNat
      < (p.toNat / 2 ^ n % 2 ^ m + 1) * 2 ^ n := by
        rw [Nat.succ_mul]
        exact Nat.add_lt_add_left y.isLt _
    _ ≤ 2 ^ (9 - n) * 2 ^ n := Nat.mul_le_mul_right _ hhigh
    _ = 512 := hpow

/-- JMP and JSR of the 512-word parts carry a 9-bit address (R268). -/
theorem longAddress_lt {a : RomAddr} (h : a[9] = false) : a.toNat < 512 := by
  have hmsb : a.msb = false := by rwa [BitVec.msb_eq_getLsbD_last, BitVec.getLsbD_eq_getElem (by decide)]
  simpa [BitVec.msb_eq_decide] using hmsb

/-- A transfer of control takes P from the stack, from the instruction, or from P's own page or block, and
moves it and the stack's addresses alone. -/
theorem State.ShortAddresses.exec_transfer (hs : s.ShortAddresses) (hpart : s.part.variant.isCop410 = true)
    (hsub : i.onCop410 = true) (hi : i.isTransfer = true) (h : exec i s = .next t) : t.ShortAddresses := by
  cases i
  case jid =>
    cases h
    exact ⟨replaceLow_lt hs.P (by decide) _, hs.SA, hs.SB⟩
  case jmp a =>
    cases h
    exact ⟨longAddress_lt (by simpa [Instr.onCop410] using hsub), hs.SA, hs.SB⟩
  case jp7 a =>
    cases h
    exact ⟨replaceLow_lt hs.P (by decide) a, hs.SA, hs.SB⟩
  case jp6 a =>
    cases h
    exact ⟨replaceLow_lt hs.P (by decide) a, hs.SA, hs.SB⟩
  case jsrp a =>
    cases (exec_jsr _ s).symm.trans h
    have hpage : (2#4 ++ a : RomAddr).toNat < 512 := by
      have := a.isLt
      rw [append_toNat]
      simp
      omega
    exact ⟨hpage, hs.P, hs.SA⟩
  case jsr a =>
    cases (exec_jsr a s).symm.trans h
    exact ⟨longAddress_lt (by simpa [Instr.onCop410] using hsub), hs.P, hs.SA⟩
  case ret =>
    cases (exec_ret s).symm.trans h
    exact ⟨hs.SA, hs.SB, by simpa [hpart] using hs.SB⟩
  case retsk =>
    cases (exec_retsk (exec_retsk_next h)).symm.trans h
    exact ⟨hs.SA, hs.SB, by simpa [hpart] using hs.SB⟩
  all_goals cases hi

theorem State.ShortAddresses.exec (hs : s.ShortAddresses) (hpart : s.part.variant.isCop410 = true)
    (hsub : i.onCop410 = true) (h : exec i s = .next t) : t.ShortAddresses := by
  cases hi : i.isTransfer with
  | true => exact hs.exec_transfer hpart hsub hi h
  | false =>
    have hno := Bool.eq_false_iff.1 hi
    have hcall : ¬ i.Calls := fun hc => hno (isTransfer_of_calls hc)
    have hret : i ∉ [.ret, .retsk] := fun hr => hno (isTransfer_of_returns hr)
    have hSB : t.SB.toNat < 512 := by
      by_cases hlqid : i = .lqid
      · subst hlqid
        cases (exec_lqid s).symm.trans h
        simpa [hpart] using hs.SA
      · rw [exec_keeps_SB h hret hcall (.inl hlqid)]
        exact hs.SB
    exact ⟨exec_keeps_P h hi ▸ hs.P, exec_keeps_SA h hret hcall ▸ hs.SA, hSB⟩

/-- An instruction that the part has, executed with `skip` clear and the chain set exactly for an LBI (R127,
R128). -/
theorem State.Valid.exec (hs : s.Valid) (hhas : s.part.has i = true) (hskip : s.skip = false)
    (h : exec i (s.beginInstr i) = .next t) : t.Valid := by
  have hbegin : (s.beginInstr i).Valid :=
    ⟨hs.ramCanonical, hs.ramWithin, fun hset => absurd (hskip.symm.trans hset) nofun,
      fun hIN => { hs.inputs hIN with }, fun hp => { hs.addresses hp with }⟩
  have hpart : t.part = s.part := (State.parameters_eq_iff.1 (exec_parameters h)).2
  have hflags : t.skip = true → t.lbiChain = false := by
    intro hset
    rw [(exec_keeps_lbiChain_irq h).1]
    cases hlbi : i.isLbi with
    | false => exact hlbi
    | true => cases hset.symm.trans ((exec_keeps_skip_of_isLbi h hlbi).trans hskip)
  obtain ⟨hcanonical, hwithin⟩ := hbegin.exec_ram h
  refine ⟨hcanonical, by rwa [hpart], hflags, ?_, ?_⟩
  all_goals rw [hpart]
  · exact fun hIN => (hbegin.inputs hIN).exec hIN h
  · exact fun hp => (hbegin.addresses hp).exec hp (Part.has_cop410 hp i ▸ hhas) h

/-! The step. -/

theorem State.Valid.step (hs : s.Valid) (h : step s = .next t) : t.Valid := by
  obtain ⟨-, rfl⟩ | ⟨-, i, s1, hf, ⟨-, rfl⟩ | ⟨hpass, s2, hx, rfl⟩⟩ := step_next h
  · exact hs.nextInputs.applyEvents _
  · exact (hs.fetch hf).passOver.finish i false
  · obtain ⟨hskip, -⟩ := State.passesOver_eq_false_iff.1 hpass
    obtain ⟨rest, hd, -⟩ := State.fetch_ok hf
    obtain ⟨-, -, hhas, -⟩ := decode_eq_ok_iff.1 hd
    obtain ⟨-, hpart⟩ := State.parameters_eq_iff.1 (State.fetch_parameters hf)
    exact ((hs.fetch hf).exec (hpart ▸ hhas) hskip hx).finish i true

/-- Settles O13: program memory and the part are not written, and every part of a step keeps the other
clauses. -/
theorem stepKeepsTheInvariant : Obligations.StepKeepsTheInvariant := by
  intro s t hinv h
  obtain ⟨⟨hwf, hrom, hwithin⟩, hvalid⟩ := State.inv_iff.1 hinv
  obtain ⟨hromEq, hpartEq⟩ := State.parameters_eq_iff.1 (step_parameters h)
  refine State.inv_iff.2 ⟨?_, hvalid.step h⟩
  rw [hromEq, hpartEq]
  exact ⟨hwf, hrom, hwithin⟩

end Sys2Proof.Machine

/-! PROOFS. The arithmetic instructions (R140 to R151): the adder and the complement as numbers, the next state
of each instruction, and what it holds in A, C and skip. -/

namespace Sys2Proof.Machine

/-! The adder (R140) and the complement. -/

theorem sumDigit_addDigits (x y : Nibble) (c : Bit) :
    (sumDigit (addDigits x y c)).toNat = (x.toNat + y.toNat + c.toNat) % 16 := by
  rw [sumDigit_toNat, addDigits_toNat]

theorem sumCarry_addDigits (x y : Nibble) (c : Bit) :
    (sumCarry (addDigits x y c)).toNat = (x.toNat + y.toNat + c.toNat) / 16 := by
  rw [sumCarry_toNat, addDigits_toNat]

theorem carriesOut_addDigits (x y : Nibble) (c : Bit) :
    carriesOut (addDigits x y c) = decide (16 ≤ x.toNat + y.toNat + c.toNat) := by
  rw [carriesOut_eq, addDigits_toNat]

theorem bit_one_toNat : (1 : Bit).toNat = 1 := rfl

/-- The carry bit is set exactly when the sum overflows a digit. -/
theorem sumCarry_eq_one_iff (sum : BitVec 5) : sumCarry sum = 1 ↔ 16 ≤ sum.toNat := by
  have := sum.isLt
  rw [← BitVec.toNat_inj, sumCarry_toNat, bit_one_toNat]
  omega

theorem complement_toNat (x : Nibble) : (~~~x).toNat = 15 - x.toNat := BitVec.toNat_not

/-- A subtraction by complement, with C = 1 for no borrow coming in, carries exactly when it needs no borrow
(R145). -/
theorem subtraction_carries_iff (m a : Nibble) :
    sumCarry (addDigits (~~~a) m 1) = 1 ↔ a.toNat ≤ m.toNat := by
  have := a.isLt
  rw [sumCarry_eq_one_iff, addDigits_toNat, complement_toNat, bit_one_toNat]
  omega

/-! The instructions. -/

variable (s : State)

theorem exec_asc : exec .asc s = .next (s.takeSum (addDigits s.A s.M s.C)) := rfl

theorem exec_casc : exec .casc s = .next (s.takeSum (addDigits (~~~s.A) s.M s.C)) := rfl

theorem exec_add : exec .add s = .next { s with A := sumDigit (addDigits s.A s.M 0) } := rfl

theorem exec_adt : exec .adt s = .next { s with A := sumDigit (addDigits s.A 10 0) } := rfl

theorem exec_aisc (y : Nibble) :
    exec (.aisc y) s = .next { s with
      A := sumDigit (addDigits s.A y 0)
      skip := s.skip || carriesOut (addDigits s.A y 0) } := rfl

theorem exec_clra : exec .clra s = .next { s with A := 0 } := rfl

theorem exec_comp : exec .comp s = .next { s with A := ~~~s.A } := rfl

theorem exec_nop : exec .nop s = .next s := rfl

theorem exec_rc : exec .rc s = .next { s with C := 0 } := rfl

theorem exec_sc : exec .sc s = .next { s with C := 1 } := rfl

theorem exec_xor : exec .xor s = .next { s with A := s.A ^^^ s.M } := rfl

/-- The shared effect of ASC (`x` is A) and CASC (`x` is the complement of A), with its frame (R141, R145). -/
theorem State.takeSum_addDigits (x : Nibble) :
    let t := s.takeSum (addDigits x s.M s.C)
    let sum := x.toNat + s.M.toNat + s.C.toNat
    t.A.toNat = sum % 16 ∧ t.C.toNat = sum / 16 ∧ t.skip = (s.skip || decide (16 ≤ sum)) ∧
      t = { s with A := t.A, C := t.C, skip := t.skip } := by
  rw [State.takeSum_eq]
  refine ⟨sumDigit_addDigits x s.M s.C, sumCarry_addDigits x s.M s.C, ?_, rfl⟩
  exact congrArg (s.skip || ·) (carriesOut_addDigits x s.M s.C)

/-- COMP then ASC is CASC: COMP leaves M and C to ASC (R145). -/
theorem exec_asc_complement : exec .asc { s with A := ~~~s.A } = exec .casc s := by
  have hM : State.M { s with A := ~~~s.A } = s.M := s.readDigit_setA (~~~s.A) s.B
  rw [exec_asc, exec_casc, hM]
  rfl

/-- Settles O28: ASC gives the adder A itself. -/
theorem ascAddsWithCarryAndSkips : Obligations.AscAddsWithCarryAndSkips :=
  ⟨rfl, fun s => ⟨_, exec_asc s, s.takeSum_addDigits s.A⟩⟩

/-- Settles O29: both use the adder without a carry in and take only its digit. -/
theorem addAndAdtAddWithoutCarry : Obligations.AddAndAdtAddWithoutCarry :=
  ⟨rfl, rfl, fun _ h => Part.has_cop410 h .adt, fun s =>
    ⟨⟨_, exec_add s, sumDigit_addDigits s.A s.M 0, rfl⟩, ⟨_, exec_adt s, sumDigit_addDigits s.A 10 0, rfl⟩⟩⟩

theorem encode_aisc (y : Nibble) : encode (.aisc y) = [BitVec.ofNat 8 (0x50 + y.toNat)] := by
  rw [encode, append_eq_ofNat]
  rfl

theorem aisc_wf (y : Nibble) : (Instr.aisc y).wf = decide (y.toNat ≠ 0) := by
  revert y
  decide

/-- Settles O30: the adder with the operand, and no carry in. -/
theorem aiscAddsImmediateAndSkips : Obligations.AiscAddsImmediateAndSkips := by
  intro y
  refine ⟨encode_aisc y, aisc_wf y, fun s => ⟨_, exec_aisc s y, sumDigit_addDigits s.A y 0, ?_, rfl⟩⟩
  exact congrArg (s.skip || ·) (carriesOut_addDigits s.A y 0)

/-- Settles O31: CASC gives the adder 15 - A. -/
theorem cascSubtractsAndSkipsOnNoBorrow : Obligations.CascSubtractsAndSkipsOnNoBorrow := by
  refine ⟨rfl, fun _ h => Part.has_cop410 h .casc, fun s =>
    ⟨⟨_, exec_casc s, ?_⟩, _, exec_comp s, exec_asc_complement s⟩⟩
  obtain ⟨hA, hC, hskip, hframe⟩ := s.takeSum_addDigits (~~~s.A)
  rw [complement_toNat] at hA hC hskip
  refine ⟨hA, hC, hskip, fun hcarry => ?_, hframe⟩
  rw [hcarry]
  exact subtraction_carries_iff s.M s.A

/-- Settles O32: the next states by `exec_clra`, `exec_comp` and `exec_nop`. -/
theorem clraCompAndNopComplete : Obligations.ClraCompAndNopComplete :=
  ⟨rfl, rfl, rfl, fun s => ⟨exec_clra s, ⟨_, exec_comp s, complement_toNat s.A, rfl⟩, exec_nop s⟩⟩

/-- Settles O33: `exec_rc` and `exec_sc`. -/
theorem rcAndScWriteCarry : Obligations.RcAndScWriteCarry :=
  ⟨rfl, rfl, fun s => ⟨exec_rc s, exec_sc s⟩⟩

/-- Settles O34: bit k of an exclusive-or is that of the bits k. -/
theorem xorExclusiveOrsEachBit : Obligations.XorExclusiveOrsEachBit :=
  ⟨rfl, fun s => ⟨_, exec_xor s, fun k => BitVec.getElem_xor k.isLt, rfl⟩⟩

end Sys2Proof.Machine

/-! PROOFS. The input/output instructions (R160 to R167): the next state of each, the digit that INIL makes of
the latches and CKO, and the two halves of the byte that INL reads. -/

namespace Sys2Proof.Machine

variable (s : State)

/-! The pins into A (R160, R161). -/

theorem exec_ing : exec .ing s = .next { s with A := s.inputs.pinG } := rfl

theorem exec_inin : exec .inin s = .next { s with A := s.inputs.pinIN } := rfl

/-- Settles O35: `exec_ing` and `exec_inin`; without IN pins the part has no ININ. -/
theorem ingAndIninReadPins : Obligations.IngAndIninReadPins :=
  ⟨rfl, rfl, fun _ => Part.not_has_inin, fun s => ⟨exec_ing s, exec_inin s⟩⟩

/-! The input latches and CKO (R162, R262). -/

/-- The digit of INIL: A3, A2, a zero and A0 (R162). -/
theorem inilDigit_toNat (a3 a2 a0 : Bit) :
    (((a3 ++ a2) ++ 0#1) ++ a0 : Nibble).toNat = 8 * a3.toNat + 4 * a2.toNat + a0.toNat := by
  rw [append_toNat, append_toNat, append_toNat, BitVec.toNat_zero]
  omega

theorem State.ckoBit_toNat :
    s.ckoBit.toNat = if s.part.cko = .generalInput then s.inputs.pinCKO.toNat else 1 :=
  apply_ite BitVec.toNat _ _ _

/-- INIL with IN pins: both latches and CKO are read and the latches reset (R162). -/
theorem exec_inil_of_hasIN {s : State} (hIN : s.part.variant.hasIN = true) :
    exec .inil s = .next { s with A := ((s.IL3 ++ s.ckoBit) ++ 0#1) ++ s.IL0, IL3 := 0, IL0 := 0 } :=
  if_pos hIN

/-- INIL without IN pins: CKO alone is read (R262). -/
theorem exec_inil_of_not_hasIN {s : State} (hIN : s.part.variant.hasIN = false)
    (hcko : s.part.cko = .generalInput) :
    exec .inil s = .next { s with A := ((0#1 ++ s.inputs.pinCKO) ++ 0#1) ++ 0#1 } := by
  change execInil s = _
  rw [execInil, if_neg (by simp [hIN]), if_pos hcko]
  rfl

/-- Settles O36: INIL by whether the part has IN pins and whether CKO is a general-purpose input. -/
theorem inilReadsAndResetsTheLatches : Obligations.InilReadsAndResetsTheLatches := by
  refine ⟨rfl, fun s => ⟨fun hIN => ?_, fun hIN hcko => ?_, exec_inil_fault⟩⟩
  · refine ⟨_, exec_inil_of_hasIN hIN, ?_, rfl⟩
    rw [← s.ckoBit_toNat]
    exact inilDigit_toNat s.IL3 s.ckoBit s.IL0
  · refine ⟨_, exec_inil_of_not_hasIN hIN hcko, ?_, rfl⟩
    simpa using inilDigit_toNat 0 s.inputs.pinCKO 0

/-! The L pins into M and A (R163). -/

theorem upperHalf_toNat (b : Byte) : (b.extractLsb' 4 4).toNat = b.toNat / 16 := by
  have := b.isLt
  rw [BitVec.extractLsb'_toNat, Nat.shiftRight_eq_div_pow]
  omega

theorem lowerHalf_toNat {w : Nat} (x : BitVec w) : (x.extractLsb' 0 4).toNat = x.toNat % 16 :=
  BitVec.extractLsb'_toNat 0 4 x

theorem exec_inl :
    exec .inl s = .next { s with
      A := s.inputs.pinL.extractLsb' 0 4
      ram := s.ram.write (s.storeCell s.B) (s.inputs.pinL.extractLsb' 4 4) } := rfl

/-- Settles O37: a canonical RAM reads back the upper half from the cell written and keeps every other. -/
theorem inlLoadsMAndAFromL : Obligations.InlLoadsMAndAFromL := by
  refine ⟨rfl, fun s hram => ⟨_, exec_inl s, ?_, lowerHalf_toNat s.inputs.pinL, ?_, rfl⟩⟩
  · exact (congrArg BitVec.toNat (Memory.read_write_same hram _ _)).trans (upperHalf_toNat s.inputs.pinL)
  · exact fun c => Memory.read_write_other hram _

/-! The output latches (R164, R165, R166). -/

theorem exec_obd : exec .obd s = .next { s with D := s.bd } := rfl

theorem exec_ogi (y : Nibble) : exec (.ogi y) s = .next { s with G := y } := rfl

theorem exec_omg : exec .omg s = .next { s with G := s.M } := rfl

theorem encode_ogi (y : Nibble) : encode (.ogi y) = [0x33, BitVec.ofNat 8 (0x50 + y.toNat)] := by
  rw [encode, append_eq_ofNat]
  rfl

/-- Settles O38: the next states by `exec_obd`, `exec_ogi` and `exec_omg`. -/
theorem outputInstructionsLoadTheirLatch : Obligations.OutputInstructionsLoadTheirLatch :=
  ⟨rfl, rfl, fun y s => ⟨encode_ogi y, fun h => Part.has_cop410 h (.ogi y),
    ⟨_, exec_obd s, lowerHalf_toNat s.B, rfl⟩, exec_ogi s y, exec_omg s⟩⟩

/-! The serial register (R167). -/

theorem exec_xas : exec .xas s = .next { s with A := s.SIO, SIO := s.A, SKL := s.C } := rfl

/-- Settles O39: `exec_xas`. -/
theorem xasExchangesAWithSioAndCopiesCarry : Obligations.XasExchangesAWithSioAndCopiesCarry :=
  ⟨rfl, exec_xas⟩

end Sys2Proof.Machine

/-! PROOFS. The jumps that keep the upper bits of P (R181, R183): the kept field as a number, the pointer into
program memory, and the bytes and pages of the two forms of JP (R94, R105). -/

namespace Sys2Proof.Machine

theorem highField_toNat {w m n : Nat} (hw : n + m = w) (x : BitVec w) :
    (x.extractLsb' n m).toNat = x.toNat / 2 ^ n := by
  have hlt : x.toNat / 2 ^ n < 2 ^ m := Nat.div_lt_of_lt_mul (by rw [← pow_add, hw]; exact x.isLt)
  rw [BitVec.extractLsb'_toNat, Nat.shiftRight_eq_div_pow, Nat.mod_eq_of_lt hlt]

/-- Replacing the low `n` bits of an address keeps the block of 2^n words it is in. -/
theorem replaceLow_toNat {m n : Nat} (hwidth : n + m = 10) (p : RomAddr) (y : BitVec n) :
    (p.extractLsb' n m ++ y).toNat = 2 ^ n * (p.toNat / 2 ^ n) + y.toNat := by
  rw [append_toNat, highField_toNat hwidth, Nat.mul_comm]

variable (s : State)

/-! JID (R181). -/

/-- The pointer of JID and LQID: P9:P8, then A, then M (R181, R205). -/
theorem State.romPointer_toNat :
    s.romPointer.toNat = 256 * (s.P.toNat / 256) + 16 * s.A.toNat + s.M.toNat := by
  rw [State.romPointer, append_toNat, append_toNat, highField_toNat rfl]
  omega

theorem exec_jid :
    exec .jid s = .next { s with P := s.P.extractLsb' 8 2 ++ s.rom.read s.romPointer.toNat } := rfl

/-- Settles O40: JID replaces the low 8 bits of P by the word its pointer names. -/
theorem jidJumpsThroughTheRomPointer : Obligations.JidJumpsThroughTheRomPointer := by
  refine ⟨rfl, fun s => ⟨_, exec_jid s, ?_, rfl⟩⟩
  rw [← s.romPointer_toNat]
  exact replaceLow_toNat (m := 2) (n := 8) rfl s.P (s.rom.read s.romPointer.toNat)

/-! JP (R183), by its form. -/

theorem exec_jp7 (a : BitVec 7) : exec (.jp7 a) s = .next { s with P := s.P.extractLsb' 7 3 ++ a } := rfl

theorem exec_jp6 (a : BitVec 6) : exec (.jp6 a) s = .next { s with P := s.P.extractLsb' 6 4 ++ a } := rfl

theorem encode_jp7 (a : BitVec 7) : encode (.jp7 a) = [BitVec.ofNat 8 (0x80 + a.toNat)] := by
  rw [encode, append_eq_ofNat]
  rfl

theorem encode_jp6 (a : BitVec 6) : encode (.jp6 a) = [BitVec.ofNat 8 (0xC0 + a.toNat)] := by
  rw [encode, append_eq_ofNat]
  rfl

theorem jp7_wf (a : BitVec 7) : (Instr.jp7 a).wf = decide (a.toNat ≠ 0x7F ∧ a.toNat ≠ 0x3F) := by
  revert a
  decide

theorem jp6_wf (a : BitVec 6) : (Instr.jp6 a).wf = decide (a.toNat ≠ 0x3F) := by
  revert a
  decide

theorem jp7_fitsPage (a : BitVec 7) (p : RomAddr) :
    (Instr.jp7 a).fitsPage (pageOf p) = decide (p.toNat / 64 = 2 ∨ p.toNat / 64 = 3) :=
  subroutinePage_pageOf p

theorem jp6_fitsPage (a : BitVec 6) (p : RomAddr) :
    (Instr.jp6 a).fitsPage (pageOf p) = decide (¬ (p.toNat / 64 = 2 ∨ p.toNat / 64 = 3)) :=
  jsrp_fitsPage a p

/-- Pages 2 and 3 are the block of 128 words at 0x080 (R64). -/
theorem subroutineBlock_start {p : Nat} (h : p / 64 = 2 ∨ p / 64 = 3) : 128 * (p / 128) = 0x080 := by
  omega

/-- Settles O42: the 7-bit form moves P within its block of 128 words, the 6-bit form within its page. -/
theorem jpJumpsWithinThePage : Obligations.JpJumpsWithinThePage := by
  constructor
  · intro a s
    have htarget : (s.P.extractLsb' 7 3 ++ a).toNat = 128 * (s.P.toNat / 128) + a.toNat :=
      replaceLow_toNat (m := 3) (n := 7) rfl s.P a
    refine ⟨encode_jp7 a, jp7_wf a, jp7_fitsPage a s.P, _, exec_jp7 s a, htarget, fun hpage => ?_, rfl⟩
    exact htarget.trans (congrArg (· + a.toNat) (subroutineBlock_start hpage))
  · exact fun a s => ⟨encode_jp6 a, jp6_wf a, jp6_fitsPage a s.P, _, exec_jp6 s a,
      replaceLow_toNat (m := 4) (n := 6) rfl s.P a, rfl⟩

end Sys2Proof.Machine

/-! PROOFS. The memory reference instructions (R200 to R212): their bytes, the bit operations on M, the next state
of each, and the two memory laws (the cell written, every other cell) at the address each one stores to. -/

namespace Sys2Proof.Machine

/-! Bytes with an r field (R92), and with a direct address (R100). -/

theorem encodeR_eq_ofNat (r : BitVec 2) (o : Nibble) :
    encodeR r o = BitVec.ofNat 8 (o.toNat + 16 * r.toNat) := by
  have hsum : ((0#2).toNat * 4 + r.toNat) * 16 + o.toNat = o.toNat + 16 * r.toNat := by
    rw [BitVec.toNat_zero]
    omega
  exact (encodeRD_eq_ofNat 0 r o).trans (congrArg (BitVec.ofNat 8) hsum)

theorem encode_ld (r : BitVec 2) : encode (.ld r) = [BitVec.ofNat 8 (0x05 + 16 * r.toNat)] :=
  congrArg ([·]) (encodeR_eq_ofNat r 5)

theorem encode_x (r : BitVec 2) : encode (.x r) = [BitVec.ofNat 8 (0x06 + 16 * r.toNat)] :=
  congrArg ([·]) (encodeR_eq_ofNat r 6)

theorem encode_xds (r : BitVec 2) : encode (.xds r) = [BitVec.ofNat 8 (0x07 + 16 * r.toNat)] :=
  congrArg ([·]) (encodeR_eq_ofNat r 7)

theorem encode_xis (r : BitVec 2) : encode (.xis r) = [BitVec.ofNat 8 (0x04 + 16 * r.toNat)] :=
  congrArg ([·]) (encodeR_eq_ofNat r 4)

theorem encode_stii (y : Nibble) : encode (.stii y) = [BitVec.ofNat 8 (0x70 + y.toNat)] := by
  rw [encode, append_eq_ofNat]
  rfl

theorem encode_ldd (r : BitVec 2) (d : Nibble) :
    encode (.ldd r d) = [0x23, BitVec.ofNat 8 (16 * r.toNat + d.toNat)] := by
  rw [encode, encodeRD_eq_ofNat, Nat.mul_comm 16]
  simp

/-- XAD has the second byte of the two-byte LBI. -/
theorem encode_xad (r : BitVec 2) (d : Nibble) :
    encode (.xad r d) = [0x23, BitVec.ofNat 8 (0x80 + 16 * r.toNat + d.toNat)] :=
  congrArg (0x23 :: ·) (List.cons.inj (encode_lbi2 r d)).2

/-! Digits: equality and the neighbours as numbers, and the bits that RMB and SMB write. -/

theorem beq_eq_decide_toNat {w : Nat} (x y : BitVec w) : (x == y) = decide (x.toNat = y.toNat) := by
  rw [Bool.eq_iff_iff, beq_iff_eq, decide_eq_true_iff, BitVec.toNat_inj]

theorem digit_succ_toNat (d : Nibble) : (d + 1).toNat = (d.toNat + 1) % 16 := BitVec.toNat_add d 1

theorem digit_pred_toNat (d : Nibble) : (d - 1).toNat = (d.toNat + 15) % 16 := by
  rw [BitVec.toNat_sub, Nat.add_comm]
  rfl

theorem getElem_oneHot : ∀ n k : Fin 4, (1#4 <<< n.val)[k] = decide (k = n) := by decide

theorem getElem_setBit (n k : Fin 4) (v : Nibble) : (setBit n v)[k] = (decide (k = n) || v[k]) := by
  have hor : (setBit n v)[k] = (v[k] || (1#4 <<< n.val)[k]) := BitVec.getElem_or k.isLt
  rw [hor, getElem_oneHot, Bool.or_comm]

theorem getElem_resetBit (n k : Fin 4) (v : Nibble) : (resetBit n v)[k] = (decide (k ≠ n) && v[k]) := by
  have hand : (resetBit n v)[k] = (v[k] && (~~~(1#4 <<< n.val))[k]) := BitVec.getElem_and k.isLt
  have hnot : (~~~(1#4 <<< n.val))[k] = !(1#4 <<< n.val)[k] := BitVec.getElem_not k.isLt
  rw [hand, hnot, getElem_oneHot, Bool.and_comm, decide_not]

variable (s : State)

/-! The latches and A (R201 to R205). -/

theorem exec_camq : exec .camq s = .next { s with Q := s.A ++ s.M } := rfl

/-- Settles O46: A is the upper half of the byte that CAMQ loads. -/
theorem camqLoadsQ : Obligations.CamqLoadsQ := by
  refine ⟨rfl, fun s => ⟨_, exec_camq s, ?_, rfl⟩⟩
  exact (append_toNat s.A s.M).trans (congrArg (· + s.M.toNat) (Nat.mul_comm s.A.toNat 16))

theorem exec_cqma :
    exec .cqma s = .next { s with
      A := s.Q.extractLsb' 0 4
      ram := s.ram.write (s.storeCell s.B) (s.Q.extractLsb' 4 4) } := rfl

/-- Settles O47: a canonical RAM reads back the upper half of Q from the cell written and keeps every other. -/
theorem cqmaLoadsMAndA : Obligations.CqmaLoadsMAndA := by
  refine ⟨rfl, fun _ h => Part.has_cop410 h .cqma, fun s hram =>
    ⟨_, exec_cqma s, ?_, lowerHalf_toNat s.Q, fun c => Memory.read_write_other hram _, rfl⟩⟩
  exact (congrArg BitVec.toNat (Memory.read_write_same hram _ _)).trans (upperHalf_toNat s.Q)

theorem exec_ld (r : BitVec 2) :
    exec (.ld r) s = .next { s with A := s.M, B := (s.br ^^^ r) ++ s.bd } := rfl

theorem exec_ldd (r : BitVec 2) (d : Nibble) :
    exec (.ldd r d) s = .next { s with A := s.readDigit (r ++ d) } := rfl

/-- Settles O48: the fields of B that LD loads are those of `br_append` and `bd_append`. -/
theorem ldAndLddLoadA : Obligations.LdAndLddLoadA :=
  fun r d s => ⟨encode_ld r, encode_ldd r d, fun h => Part.has_cop410 h (.ldd r d),
    ⟨_, exec_ld s r, rfl, br_append _ _, bd_append _ _, rfl⟩, exec_ldd s r d⟩

/-- Settles O49: `exec_lqid`, its pointer written as a number. -/
theorem lqidLoadsQFromRomAndCopiesSbToSc : Obligations.LqidLoadsQFromRomAndCopiesSbToSc := by
  refine ⟨rfl, fun s => ?_⟩
  rw [exec_lqid, State.romRead, State.romPointer_toNat]

/-! Stores into M (R206 to R208). -/

/-- A store into M, by the bits of the stored digit. -/
theorem exec_setM_bits {s : State} {i : Instr} {v : Nibble} {bits : Fin 4 → Bool}
    (hexec : exec i s = .next (s.setM v)) (hram : s.ram.wf = true) (hbits : ∀ k : Fin 4, v[k] = bits k) :
    ∃ t, exec i s = .next t ∧ (∀ k : Fin 4, (t.ram.read (s.storeCell s.B))[k] = bits k) ∧
      (∀ c, c ≠ s.storeCell s.B → t.ram.read c = s.ram.read c) ∧ t = { s with ram := t.ram } := by
  refine ⟨_, hexec, fun k => ?_, fun c => Memory.read_write_other hram v, rfl⟩
  rw [s.setM_eq, Memory.read_write_same hram, hbits]

/-- Settles O50: each row stores `resetBit` or `setBit` of M. -/
theorem rmbAndSmbWriteOneBitOfM : Obligations.RmbAndSmbWriteOneBitOfM := by
  constructor
  all_goals
    intro p hp
    simp only [List.mem_cons, List.not_mem_nil, or_false] at hp
  · obtain rfl | rfl | rfl | rfl := hp
    all_goals exact ⟨rfl, fun s hram => exec_setM_bits rfl hram fun k => getElem_resetBit _ k s.M⟩
  · obtain rfl | rfl | rfl | rfl := hp
    all_goals exact ⟨rfl, fun s hram => exec_setM_bits rfl hram fun k => getElem_setBit _ k s.M⟩

theorem exec_stii (y : Nibble) :
    exec (.stii y) s = .next { s with
      B := s.br ++ (s.bd + 1)
      ram := s.ram.write (s.storeCell s.B) y } := rfl

/-- Settles O51: the store uses the B from before Bd is stepped. -/
theorem stiiStoresAndStepsBd : Obligations.StiiStoresAndStepsBd := by
  refine fun y s => ⟨encode_stii y, fun hram => ⟨_, exec_stii s y, Memory.read_write_same hram _ y,
    fun c => Memory.read_write_other hram y, br_append _ _, ?_, rfl⟩⟩
  exact (congrArg BitVec.toNat (bd_append s.br (s.bd + 1))).trans (digit_succ_toNat s.bd)

/-! Exchanges (R209 to R212). -/

theorem exec_x (r : BitVec 2) :
    exec (.x r) s = .next { s with
      A := s.M
      B := (s.br ^^^ r) ++ s.bd
      ram := s.ram.write (s.storeCell s.B) s.A } := rfl

theorem exec_xad (r : BitVec 2) (d : Nibble) : exec (.xad r d) s = .next (s.exchangeAt (r ++ d)) := rfl

/-- XAD 3,15 is the one XAD of the COP410L and COP411L (R274). -/
theorem xad_onCop410 (r : BitVec 2) (d : Nibble) :
    (Instr.xad r d).onCop410 = decide (r.toNat = 3 ∧ d.toNat = 15) := by
  rw [Instr.onCop410, beq_eq_decide_toNat, beq_eq_decide_toNat, ← Bool.decide_and]
  rfl

/-- Settles O52: the exchanged digit is that of the old B for X, and of the direct address for XAD. -/
theorem exchangesSwapAWithADigit : Obligations.ExchangesSwapAWithADigit := by
  refine fun r d s => ⟨encode_x r, encode_xad r d,
    fun h => (Part.has_cop410 h _).trans (xad_onCop410 r d), fun hram => ⟨?_, ?_⟩⟩
  · exact ⟨_, exec_x s r, rfl, Memory.read_write_same hram _ s.A,
      fun c => Memory.read_write_other hram s.A, br_append _ _, bd_append _ _, rfl⟩
  · exact ⟨_, exec_xad s r d, rfl, Memory.read_write_same hram _ s.A,
      fun c => Memory.read_write_other hram s.A, rfl⟩

/-- The shared effect of XDS and XIS, with its frame: `d` is the stepped Bd, and `last` the Bd that it steps
past its end. -/
theorem State.exchangeM_step {s : State} (hram : s.ram.wf = true) (r : BitVec 2) (d last : Nibble) :
    let t := ((s.exchangeM.skipIf (s.bd == last)).setBd d).xorBr r
    t.A = s.M ∧ t.ram.read (s.storeCell s.B) = s.A ∧
      (∀ c, c ≠ s.storeCell s.B → t.ram.read c = s.ram.read c) ∧
      t.bd.toNat = d.toNat ∧ t.br = s.br ^^^ r ∧ t.skip = (s.skip || decide (s.bd.toNat = last.toNat)) ∧
      t = { s with A := t.A, B := t.B, ram := t.ram, skip := t.skip } := by
  refine ⟨rfl, Memory.read_write_same hram _ s.A, fun c => Memory.read_write_other hram s.A, ?_, ?_, ?_, rfl⟩
  · rw [State.xorBr, State.bd_setBr, State.bd_setBd]
  · rw [State.xorBr, State.br_setBr, State.br_setBd]
    rfl
  · exact congrArg (s.skip || ·) (beq_eq_decide_toNat s.bd last)

theorem exec_xds (r : BitVec 2) :
    exec (.xds r) s = .next (((s.exchangeM.skipIf (s.bd == 0)).setBd (s.bd - 1)).xorBr r) := rfl

theorem exec_xis (r : BitVec 2) :
    exec (.xis r) s = .next (((s.exchangeM.skipIf (s.bd == 15)).setBd (s.bd + 1)).xorBr r) := rfl

/-- Settles O53: XDS steps Bd down and passes its end at 0, XIS up and at 15. -/
theorem xdsAndXisExchangeAndStepBd : Obligations.XdsAndXisExchangeAndStepBd := by
  refine fun r s => ⟨encode_xds r, encode_xis r, fun hram => ⟨⟨_, exec_xds s r, ?_⟩, _, exec_xis s r, ?_⟩⟩
  · rw [← digit_pred_toNat]
    exact State.exchangeM_step hram r (s.bd - 1) 0
  · rw [← digit_succ_toNat]
    exact State.exchangeM_step hram r (s.bd + 1) 15

end Sys2Proof.Machine

/-! PROOFS. The register reference instructions that move digits between A and B (R230, R231, R234): the next
state of each, and the fields of the new A and B as numbers. -/

namespace Sys2Proof.Machine

variable (s : State)

/-- Br is the upper field of B (R21). -/
theorem State.br_toNat : s.br.toNat = s.B.toNat / 16 := highField_toNat (m := 2) (n := 4) rfl s.B

/-- Bd is the lower field of B (R21). -/
theorem State.bd_toNat : s.bd.toNat = s.B.toNat % 16 := lowerHalf_toNat s.B

/-- A digit with 00 in its upper two bits is its lower two bits. -/
theorem zero_append_toNat (r : BitVec 2) : (0#2 ++ r : Nibble).toNat = r.toNat := by
  rw [append_toNat, BitVec.toNat_zero, Nat.zero_mul, Nat.zero_add]

theorem exec_cab : exec .cab s = .next { s with B := s.br ++ s.A } := rfl

theorem exec_cba : exec .cba s = .next { s with A := s.bd } := rfl

theorem exec_xabr :
    exec .xabr s = .next { s with
      A := 0#2 ++ s.br
      B := s.A.extractLsb' 0 2 ++ s.bd } := rfl

/-- Settles O54: the fields of the new B are those of `br_append` and `bd_append`, and A takes a field of the
old B. -/
theorem cabCbaAndXabrMoveBetweenAAndB : Obligations.CabCbaAndXabrMoveBetweenAAndB := by
  refine ⟨rfl, rfl, rfl, fun s => ⟨?_, ?_, ?_⟩⟩
  · exact ⟨_, exec_cab s, bd_append _ _, br_append _ _, rfl⟩
  · exact ⟨_, exec_cba s, s.bd_toNat, rfl⟩
  · have hbr : (s.A.extractLsb' 0 2 ++ s.bd : RamAddr).extractLsb' 4 2 = s.A.extractLsb' 0 2 := br_append _ _
    have hA : (0#2 ++ s.br : Nibble).toNat = s.B.toNat / 16 := (zero_append_toNat s.br).trans s.br_toNat
    exact ⟨_, exec_xabr s, (congrArg BitVec.toNat hbr).trans (BitVec.extractLsb'_toNat 0 2 s.A),
      bd_append _ _, hA, rfl⟩

end Sys2Proof.Machine

/-! PROOFS. The test instructions (R245 to R250): each one is `skipIf` of its condition, and the conditions are
read as the equations that the rules state. -/

namespace Sys2Proof.Machine

/-- Bit `n` of a digit, counted from the least significant, is its `n`-th binary digit (R249). -/
theorem not_getElem_eq_decide_toNat (v : Nibble) (n : Fin 4) :
    (!v[n]) = decide (v.toNat / 2 ^ n.val % 2 = 0) := by
  have hbit : v[n] = decide (v.toNat / 2 ^ n.val % 2 = 1) := bit_eq v n.isLt
  rw [hbit, ← decide_not]
  exact decide_eq_decide.2 Nat.mod_two_ne_one

/-- An instruction that is `skipIf` of a condition changes skip alone, by any reading of that condition. -/
theorem exec_skipIf {s : State} {i : Instr} {c d : Bool} (hexec : exec i s = .next (s.skipIf c))
    (hcond : c = d) :
    exec i s = .next { s with skip := s.skip || d } := by
  rw [hexec, hcond, State.skipIf_eq]

variable (s : State)

/-! Carry and equality (R245, R246). -/

theorem exec_skc : exec .skc s = .next (s.skipIf (s.C == 1)) := rfl

theorem exec_ske : exec .ske s = .next (s.skipIf (s.A == s.M)) := rfl

/-- Settles O57: SKC compares C with 1, SKE compares A with M. -/
theorem skcAndSkeSkipOnCarryAndEquality : Obligations.SkcAndSkeSkipOnCarryAndEquality :=
  ⟨rfl, rfl, fun s => ⟨exec_skipIf (exec_skc s) (beq_eq_decide s.C 1),
    exec_skipIf (exec_ske s) (beq_eq_decide s.A s.M)⟩⟩

/-! The G pins (R247, R248). -/

theorem exec_skgz : exec .skgz s = .next (s.skipIf (s.inputs.pinG == 0)) := rfl

/-- Settles O58: each SKGBZ row complements its pin's level, and SKGZ compares the four levels with 0. -/
theorem skgbzAndSkgzTestTheGPins : Obligations.SkgbzAndSkgzTestTheGPins := by
  refine ⟨fun p hp => ?_, rfl, fun s => exec_skipIf (exec_skgz s) (beq_eq_decide_toNat s.inputs.pinG 0)⟩
  simp only [List.mem_cons, List.not_mem_nil, or_false] at hp
  obtain ⟨hbytes, hexec⟩ : encode p.1 = [0x33, p.2.2] ∧
      ∀ s, exec p.1 s = .next (s.skipIf (!s.inputs.pinG[p.2.1])) := by
    obtain rfl | rfl | rfl | rfl := hp
    all_goals exact ⟨rfl, fun _ => rfl⟩
  exact ⟨hbytes, fun s => exec_skipIf (hexec s) Bool.decide_eq_false.symm⟩

/-! The bits of M (R249). -/

/-- Settles O59: each row complements the bit of M that `not_getElem_eq_decide_toNat` gives as a number. -/
theorem skmbzTestsABitOfM : Obligations.SkmbzTestsABitOfM := by
  intro p hp
  simp only [List.mem_cons, List.not_mem_nil, or_false] at hp
  obtain ⟨hbytes, hexec⟩ : encode p.1 = [p.2.2] ∧
      ∀ s, exec p.1 s = .next (s.skipIf (!s.M[p.2.1])) := by
    obtain rfl | rfl | rfl | rfl := hp
    all_goals exact ⟨rfl, fun _ => rfl⟩
  exact ⟨hbytes, fun s => exec_skipIf (hexec s) (not_getElem_eq_decide_toNat s.M p.2.1)⟩

/-! The timer latch (R250). -/

theorem exec_skt : exec .skt s = .next { s with skip := s.skip || s.T, T := false } := rfl

/-- Settles O60: SKT tests T before it resets it, and the COP410L and COP411L lack it (R274). -/
theorem sktTestsAndResetsTheTimerLatch : Obligations.SktTestsAndResetsTheTimerLatch :=
  ⟨rfl, fun _ h => Part.has_cop410 h .skt, exec_skt⟩

end Sys2Proof.Machine

/-! PROOFS. The interrupt (R133, R294, R295, R296, R298): when it is due, what entering it writes, and that the
cycles before it have no part in either. -/

namespace Sys2Proof

/-- The parts with IN pins have the three-level stack (R267, R269, R322). -/
theorem Variant.isCop410_of_hasIN {v : Variant} (h : v.hasIN = true) : v.isCop410 = false := by
  rw [← Bool.not_eq_true]
  exact fun hsmall => absurd ((Variant.hasIN_of_isCop410 hsmall).symm.trans h) nofun

end Sys2Proof

namespace Sys2Proof.Machine

/-! Entering it and returning from it. -/

variable {s : State}

theorem State.enterInterrupt_of_hasIN (h : s.part.variant.hasIN = true) :
    s.enterInterrupt = { s with
      SA := s.P
      SB := s.SA
      SC := s.SB
      P := interruptEntry
      EN := s.EN &&& 0xD
      skip := false
      skipSaved := s.skip
      lbiChain := false
      irq := false } := by
  simp [State.enterInterrupt_eq, Variant.isCop410_of_hasIN h]

/-- The mask of the entry clears EN1 alone (R295). -/
theorem getElem_resetEN1 (en : Nibble) :
    (en &&& 0xD)[1] = false ∧ (en &&& 0xD)[0] = en[0] ∧ (en &&& 0xD)[2] = en[2] ∧ (en &&& 0xD)[3] = en[3] := by
  revert en
  decide

/-- Settles O11: the entry's fields, with EN read bit by bit. -/
theorem interruptEntrySavesAddressAndSkip : Obligations.InterruptEntrySavesAddressAndSkip := by
  intro s hIN
  obtain ⟨hEN1, hEN0, hEN2, hEN3⟩ := getElem_resetEN1 s.EN
  exact ⟨_, State.enterInterrupt_of_hasIN hIN, rfl, rfl, rfl, rfl, rfl, rfl, rfl, hEN1, hEN0, hEN2, hEN3, rfl, rfl⟩

/-- Settles O12: RET pops what the entry pushed, and SC keeps the copy of SB. -/
theorem retAfterInterruptImplementsSavedSkip : Obligations.RetAfterInterruptImplementsSavedSkip := by
  intro s hIN
  rw [State.enterInterrupt_of_hasIN hIN, exec_ret]
  simp [Variant.isCop410_of_hasIN hIN]

/-! When it is due (R294). -/

/-- The next instruction is what decodes at P. -/
theorem State.nextInstr_eq_some_iff {j : Instr} :
    s.nextInstr = some j ↔
      ∃ rest, decode s.part (pageOf s.nextP) [s.romRead s.P, s.romRead s.nextP] = .ok (j, rest) := by
  constructor
  · intro h
    unfold State.nextInstr at h
    split at h
    · rename_i k t hf
      obtain ⟨rest, hd, -⟩ := State.fetch_ok hf
      cases h
      exact ⟨rest, hd⟩
    · cases h
  · rintro ⟨rest, hd⟩
    rw [State.nextInstr, State.fetch_of_decode hd]

/-- States with the same program memory, part and P have the same next instruction. -/
theorem State.nextInstr_congr {t : State} (hrom : t.rom = s.rom) (hpart : t.part = s.part) (hP : t.P = s.P) :
    t.nextInstr = s.nextInstr := by
  have hnextP : t.nextP = s.nextP := by rw [State.nextP, State.nextP, hpart, hP]
  ext j
  simp only [State.nextInstr_eq_some_iff, State.romRead, hrom, hpart, hP, hnextP]

theorem State.interruptDue_iff {i : Instr} {e : Bool} :
    s.interruptDue i e = true ↔
      s.part.variant.hasIN = true ∧ s.EN[1] = true ∧ s.irq = true
        ∧ ¬ (e = true ∧ i.isTransfer = true ∧ ∃ j, s.nextInstr = some j ∧ j.isTransfer = true)
        ∧ ¬ (i.isLbi = true ∧ ∃ j, s.nextInstr = some j ∧ j.isLbi = true) := by
  simp only [State.interruptDue, State.en1, Bool.and_eq_true, Bool.not_eq_true', ← Bool.not_eq_true,
    Option.any_eq_true, and_assoc]
  exact ⟨fun ⟨hen, hirq, hIN, hrest⟩ => ⟨hIN, hen, hirq, hrest⟩,
    fun ⟨hIN, hen, hirq, hrest⟩ => ⟨hen, hirq, hIN, hrest⟩⟩

/-- Whether the interrupt is due depends on the fields R294 names alone. -/
theorem State.interruptDue_congr {t : State} (hEN : t.EN = s.EN) (hirq : t.irq = s.irq)
    (hpart : t.part = s.part) (hrom : t.rom = s.rom) (hP : t.P = s.P) (i : Instr) (e : Bool) :
    t.interruptDue i e = s.interruptDue i e := by
  rw [State.interruptDue, State.interruptDue, State.nextInstr_congr hrom hpart hP, State.en1, State.en1,
    hEN, hirq, hpart]

/-! The check (R133). -/

theorem State.interruptCheck_entered {i : Instr} {e : Bool} (hdue : s.interruptDue i e = true)
    (hack : s.inputs.acknowledge = true) : s.interruptCheck i e = s.enterInterrupt :=
  if_pos (Bool.and_eq_true_iff.2 ⟨hdue, hack⟩)

theorem State.interruptCheck_not_entered {i : Instr} {e : Bool}
    (h : ¬ (s.interruptDue i e = true ∧ s.inputs.acknowledge = true)) : s.interruptCheck i e = s :=
  if_neg fun hboth => h (Bool.and_eq_true_iff.1 hboth)

/-- The check reads neither the counters nor, but for the acknowledgement, the script, and writes none of
them. -/
theorem State.interruptCheck_unread (s : State) (tc : BitVec 10) (tl : Bool) (sio : Nibble) {l : List Inputs}
    (hack : (s.setScript l).inputs.acknowledge = s.inputs.acknowledge) (i : Instr) (e : Bool) :
    State.interruptCheck { s with TC := tc, T := tl, SIO := sio, script := l } i e =
      { s.interruptCheck i e with TC := tc, T := tl, SIO := sio, script := l } := by
  have hdue : State.interruptDue { s with TC := tc, T := tl, SIO := sio, script := l } i e
      = s.interruptDue i e := by
    apply State.interruptDue_congr <;> rfl
  have hack' : (State.inputs { s with TC := tc, T := tl, SIO := sio, script := l }).acknowledge
      = s.inputs.acknowledge := hack
  by_cases h : s.interruptDue i e = true ∧ s.inputs.acknowledge = true
  · rw [State.interruptCheck_entered h.1 h.2,
      State.interruptCheck_entered (hdue.trans h.1) (hack'.trans h.2), State.enterInterrupt_eq,
      State.enterInterrupt_eq]
  · rw [State.interruptCheck_not_entered h, State.interruptCheck_not_entered (by rwa [hdue, hack'])]

/-- Where no event follows, the end of a step is the interrupt check of its beginning, but for the counters
and the inputs used up. -/
theorem State.finish_eq_interruptCheck (h : s.inputs.events = []) (i : Instr) (e : Bool) :
    s.finish i e = { s.interruptCheck i e with
      TC := (s.finish i e).TC
      T := (s.finish i e).T
      SIO := (s.finish i e).SIO
      script := (s.finish i e).script
      free := (s.finish i e).free } := by
  rw [State.finish_of_no_events h, State.runCycles_eq, s.interruptCheck_unread _ _ _ rfl]
  rfl

/-- Settles O10: the fields in question are those of the interrupt check. -/
theorem interruptEnteredExactlyWhenDueAndAcknowledged :
    Obligations.InterruptEnteredExactlyWhenDueAndAcknowledged := by
  intro s i e hevents t due
  have hdue : s.interruptDue i e = true ↔ due := State.interruptDue_iff
  have hfinish := State.finish_eq_interruptCheck hevents i e
  refine ⟨fun h => ?_, fun h => ?_⟩
  · obtain ⟨hd, hack⟩ := h
    rw [State.interruptCheck_entered (hdue.2 hd) hack, State.enterInterrupt_of_hasIN hd.1] at hfinish
    change t = _ at hfinish
    rw [hfinish]
    exact ⟨rfl, rfl, rfl, rfl, rfl, rfl, rfl, rfl, rfl⟩
  · rw [State.interruptCheck_not_entered (by rwa [hdue])] at hfinish
    change t = _ at hfinish
    rw [hfinish]
    exact ⟨rfl, rfl, rfl, rfl, rfl, rfl, rfl, rfl, rfl⟩

end Sys2Proof.Machine

/-! PROOFS. The serial register and the events of the outside world (R293, R308, R309, R313, R315, R316, R318,
R322, R343), and that a step takes its events last. -/

namespace Sys2Proof.Machine

/-- A shift on the register as a number: its top bit is lost (R308). -/
theorem shiftedDigit_toNat (sio : Nibble) (si : Bit) :
    (sio.extractLsb' 0 3 ++ si).toNat = 2 * (sio.toNat % 8) + si.toNat := by
  rw [append_toNat, BitVec.extractLsb'_toNat, Nat.mul_comm]
  rfl

/-- Settles O21: each shift drops the top bit, so after four only the samples stand. -/
theorem fourShiftsReadFourSerialBits : Obligations.FourShiftsReadFourSerialBits := by
  intro s a b c d
  refine ⟨_, rfl, ?_, rfl⟩
  simp only [State.shiftSIO_eq, shiftedDigit_toNat]
  have ha := a.isLt
  have hb := b.isLt
  have hc := c.isLt
  omega

variable {s : State}

/-! What each event writes. -/

theorem State.applyEvent_pulseIN1 (hIN : s.part.variant.hasIN = true) (b : Bool) :
    s.applyEvent (.pulseIN1 b) = { s with irq := s.irq || s.EN[1] || b } := by
  by_cases hlatched : (s.en1 || b) = true
  · have hirq : (s.irq || s.EN[1] || b) = true := by
      rw [Bool.or_assoc]
      exact Bool.or_eq_true_iff.2 (.inr hlatched)
    rw [State.applyEvent, if_pos (by simp [hIN, hlatched]), hirq]
    rfl
  · obtain ⟨hen1, hb⟩ := Bool.or_eq_false_iff.1 (Bool.not_eq_true _ ▸ hlatched)
    have hirq : (s.irq || s.EN[1] || b) = s.irq := by
      rw [show s.EN[1] = false from hen1, hb, Bool.or_false, Bool.or_false]
    rw [State.applyEvent, if_neg (by simp [hlatched]), hirq]

theorem State.applyEvent_pulse_of_hasIN (hIN : s.part.variant.hasIN = true) :
    s.applyEvent .pulseIN3 = { s with IL3 := 1 } ∧ s.applyEvent .pulseIN0 = { s with IL0 := 1 } :=
  ⟨if_pos hIN, if_pos hIN⟩

theorem State.applyEvent_pulse_of_not_hasIN (hIN : s.part.variant.hasIN = false) (b : Bool) :
    s.applyEvent (.pulseIN1 b) = s ∧ s.applyEvent .pulseIN3 = s ∧ s.applyEvent .pulseIN0 = s := by
  simp [State.applyEvent, hIN]

theorem State.applyEvent_fallSI_counting (h : s.EN[0] = true) :
    s.applyEvent .fallSI = { s with SIO := s.SIO - 1 } := if_pos h

theorem State.applyEvent_fallSI_shifting (h : s.EN[0] = false) : s.applyEvent .fallSI = s :=
  if_neg (Bool.not_eq_true _ ▸ h)

theorem State.applyEvent_hostWrite (h : s.part.microbus = true) (v : Byte) :
    s.applyEvent (.hostWrite v) = { s with Q := v, G := s.G &&& 0xE } := if_pos h

theorem State.applyEvent_hostWrite_without_microbus (h : s.part.microbus = false) (v : Byte) :
    s.applyEvent (.hostWrite v) = s := if_neg (Bool.not_eq_true _ ▸ h)

/-- The mask of a host write clears G0 alone (R316, R318). -/
theorem getElem_resetG0 (g : Nibble) :
    (g &&& 0xE)[0] = false ∧ (g &&& 0xE)[1] = g[1] ∧ (g &&& 0xE)[2] = g[2] ∧ (g &&& 0xE)[3] = g[3] := by
  revert g
  decide

/-! The script has no part in what comes before the events. -/

theorem State.cycle_setScript (s : State) (l : List Inputs) (si : Bit) :
    (s.setScript l).cycle si = (s.cycle si).setScript l := by
  have htick : (s.setScript l).tickTimeBase = s.tickTimeBase.setScript l := by
    cases hpart : s.part.variant.isCop410
    case true => rw [State.tickTimeBase_cop410 (s := s) hpart, State.tickTimeBase_cop410 (s := s.setScript l) hpart]
    case false =>
      by_cases htc : s.TC = 1023
      · rw [s.tickTimeBase_at_wrap hpart htc, (s.setScript l).tickTimeBase_at_wrap hpart htc]
        rfl
      · rw [s.tickTimeBase_below_wrap hpart htc, (s.setScript l).tickTimeBase_below_wrap hpart htc]
        rfl
  rw [State.cycle, htick, State.cycle]
  change (if s.tickTimeBase.en0 = true then _ else _) = _
  split <;> rfl

theorem State.runCycles_setScript (s : State) (l : List Inputs) (inp : Inputs) (k n : Nat) :
    (s.setScript l).runCycles inp k n = (s.runCycles inp k n).setScript l := by
  induction n generalizing s k with
  | zero => rfl
  | succ n ih => rw [State.runCycles, State.cycle_setScript, ih, State.runCycles]

/-- The cycles take the SI samples of a script entry and not its events. -/
theorem State.runCycles_without_events (s : State) (inp : Inputs) (k n : Nat) :
    s.runCycles { inp with events := [] } k n = s.runCycles inp k n := by
  induction n generalizing s k with
  | zero => rfl
  | succ n ih => exact ih _ _

theorem State.interruptCheck_setScript {l : List Inputs}
    (hack : (s.setScript l).inputs.acknowledge = s.inputs.acknowledge) (i : Instr) (e : Bool) :
    (s.setScript l).interruptCheck i e = (s.interruptCheck i e).setScript l := by
  refine (s.interruptCheck_unread s.TC s.T s.SIO hack i e).trans ?_
  rw [State.interruptCheck_frame]
  rfl

theorem State.inputs_of_script_cons {inp : Inputs} {rest : List Inputs} (h : s.script = inp :: rest) :
    s.inputs = inp := by
  rw [State.inputs, h]

theorem State.runCycles_script (s : State) (inp : Inputs) (k n : Nat) :
    (s.runCycles inp k n).script = s.script := by
  rw [State.runCycles_eq]

/-- A step ends as it would without the events of its script entry, followed by those events. -/
theorem State.finish_events_last {inp : Inputs} {rest : List Inputs} (h : s.script = inp :: rest)
    (i : Instr) (e : Bool) :
    s.finish i e =
      ((s.setScript ({ inp with events := [] } :: rest)).finish i e).applyEvents inp.events := by
  generalize hc : s.runCycles inp 0 (i.cycles e) = c
  have hscript : c.script = inp :: rest := by rw [← hc, State.runCycles_script, h]
  have hcheck : (c.interruptCheck i e).script = inp :: rest := by
    rw [State.interruptCheck_frame]
    exact hscript
  have hack : (c.setScript ({ inp with events := [] } :: rest)).inputs.acknowledge = c.inputs.acknowledge := by
    rw [State.inputs_of_script_cons hscript]
    rfl
  have hquiet : (s.setScript ({ inp with events := [] } :: rest)).finish i e
      = (c.interruptCheck i e).nextInputs := by
    rw [State.finish_of_no_events rfl]
    change (((s.setScript _).runCycles { inp with events := [] } 0 (i.cycles e)).interruptCheck i e).nextInputs = _
    rw [State.runCycles_without_events, State.runCycles_setScript, hc, State.interruptCheck_setScript hack,
      State.nextInputs, State.nextInputs, hcheck]
    rfl
  rw [State.finish, State.inputs_of_script_cons h, hc, hquiet]

/-- Settles O23: each event by the part and mode it depends on, and the events of a step by
`finish_events_last`. -/
theorem outsideEventsChangeTheirOwnLatch : Obligations.OutsideEventsChangeTheirOwnLatch := by
  intro s b v
  refine ⟨fun hIN => ⟨State.applyEvent_pulseIN1 hIN b, State.applyEvent_pulse_of_hasIN hIN⟩,
    fun hIN => State.applyEvent_pulse_of_not_hasIN hIN b,
    fun hen => ⟨_, State.applyEvent_fallSI_counting hen, digit_pred_toNat s.SIO⟩,
    State.applyEvent_fallSI_shifting,
    fun hmb => ⟨_, State.applyEvent_hostWrite hmb v, getElem_resetG0 s.G⟩,
    fun hmb => State.applyEvent_hostWrite_without_microbus hmb v,
    fun i e _ _ hscript => State.finish_events_last hscript i e, rfl, s.applyEvents_cons⟩

end Sys2Proof.Machine

/-! PROOFS. Data memory on the COP410L and COP411L (R270): the cell of each register and digit. -/

namespace Sys2Proof.Machine

theorem cop410Cell_append (r : BitVec 2) (d : Nibble) :
    cop410Cell (r ++ d) =
      16 * r.toNat + if d.toNat = 0 then 0 else if d.toNat < 8 then d.toNat + 8 else d.toNat := by
  revert r d
  decide

variable {s : State}

/-- On these parts digit 8 alone has no cell of its own (R270). -/
theorem State.noCell_cop410 (hpart : s.part.variant.isCop410 = true) (r : BitVec 2) (d : Nibble) :
    s.noCell (r ++ d) = (d == 8) := by
  rw [State.noCell, hpart, Bool.true_and, bd_append]

theorem State.noCell_cop410_of_ne (hpart : s.part.variant.isCop410 = true) (r : BitVec 2) {d : Nibble}
    (hd : d ≠ 8) : s.noCell (r ++ d) = false :=
  (State.noCell_cop410 hpart r d).trans (beq_eq_false_iff_ne.2 hd)

theorem State.storeCell_cop410 (hpart : s.part.variant.isCop410 = true) (r : BitVec 2) {d : Nibble}
    (hd : d ≠ 8) : s.storeCell (r ++ d) = cop410Cell (r ++ d) := by
  simp [State.storeCell, hpart, State.noCell_cop410_of_ne hpart r hd]

theorem State.readDigit_of_cell {a : RamAddr} (hcell : s.noCell a = false) :
    s.readDigit a = s.ram.read (s.storeCell a) := by
  simp [State.readDigit, hcell]

/-- What is written at one address is read at another that has the same cell. -/
theorem State.readDigit_writeDigit_of_storeCell_eq (hram : s.ram.wf = true) {a b : RamAddr}
    (hcell : s.noCell b = false) (hab : s.storeCell a = s.storeCell b) (v : Nibble) :
    (s.writeDigit a v).readDigit b = v := by
  have hread : (s.writeDigit a v).readDigit b = (s.writeDigit a v).ram.read (s.storeCell b) :=
    State.readDigit_of_cell (s := s.writeDigit a v) hcell
  rw [hread, State.ram_read_writeDigit s hram, if_pos hab]

theorem State.ram_read_writeDigit_other (hram : s.ram.wf = true) {a : RamAddr} (v : Nibble) {c : Nat}
    (hc : c ≠ s.storeCell a) : (s.writeDigit a v).ram.read c = s.ram.read c :=
  Memory.read_write_other hram v hc

/-- Settles O26: digits d and d + 8 have one cell, and each clause is one of the memory laws at the cell of its
address. -/
theorem cop410DigitsOneToSevenAreNineToFifteen : Obligations.Cop410DigitsOneToSevenAreNineToFifteen := by
  intro s r v hpart hram
  have hasCell : ∀ {d : Nibble}, d ≠ 8 → s.noCell (r ++ d) = false := State.noCell_cop410_of_ne hpart r
  refine ⟨?_, ?_⟩
  · intro d hlow hhigh cell
    have hsum : (d + 8).toNat = d.toNat + 8 := by bv_omega
    have hd : d ≠ 8 := by bv_omega
    have hd' : d + 8 ≠ 8 := by bv_omega
    have hlowCell : s.storeCell (r ++ d) = cell := by
      rw [State.storeCell_cop410 hpart r hd, cop410Cell_append, if_neg (by omega), if_pos (by omega)]
      exact (Nat.add_assoc _ _ _).symm
    have hhighCell : s.storeCell (r ++ (d + 8)) = cell := by
      rw [State.storeCell_cop410 hpart r hd', cop410Cell_append, hsum, if_neg (by omega), if_neg (by omega)]
      exact (Nat.add_assoc _ _ _).symm
    have hsame : s.storeCell (r ++ d) = s.storeCell (r ++ (d + 8)) := hlowCell.trans hhighCell.symm
    refine ⟨?_, ?_, State.readDigit_writeDigit_of_storeCell_eq hram (hasCell hd') hsame v,
      State.readDigit_writeDigit_of_storeCell_eq hram (hasCell hd) hsame.symm v,
      fun c hc => State.ram_read_writeDigit_other hram v (by rwa [hlowCell]),
      fun c hc => State.ram_read_writeDigit_other hram v (by rwa [hhighCell])⟩
    · rw [State.readDigit_of_cell (hasCell hd), hlowCell]
    · rw [State.readDigit_of_cell (hasCell hd'), hhighCell]
  · have h0 : (0#4 : Nibble) ≠ 8 := by decide
    have hcell0 : s.storeCell (r ++ 0#4) = 16 * r.toNat :=
      (State.storeCell_cop410 hpart r h0).trans (cop410Cell_append r 0)
    refine ⟨?_, State.readDigit_writeDigit_of_storeCell_eq hram (hasCell h0) rfl v,
      fun c hc => State.ram_read_writeDigit_other hram v (by rwa [hcell0]),
      if_pos (State.noCell_cop410 hpart r 8), s.storeCell_exists _,
      fun c hc => State.ram_read_writeDigit_other hram v hc⟩
    rw [State.readDigit_of_cell (hasCell h0), hcell0]

end Sys2Proof.Machine
